-- ==== Sys2Proof/Word.lean ====
section
/-! DEFINITION. The words of the block and the small data types its state is made of. -/

namespace Sys2Proof

/-- A host-visible register value, 32 bits (10_state.md R40). -/
abbrev Word := BitVec 32

/-- A logic-analyser sample, 16 bits (30_encoding.md R80). -/
abbrev Sample := BitVec 16

/-- One byte of the input stream (00_scope.md R9). -/
abbrev Byte := BitVec 8

/-- A decoded 12-bit address (00_scope.md R9). -/
abbrev Addr := BitVec 12

/-- A sample index, 64 bits (00_scope.md R9, `IDX_W`). -/
abbrev Index := BitVec 64

/-- An event record as the host reads it, 80 bits (30_encoding.md R90). -/
abbrev Record := BitVec 80

/-- The run status (10_state.md R38). -/
inductive RunStatus where
  | idle
  | running
  | done
  | error
  deriving DecidableEq, Repr, Inhabited

/-- The error code of a run (10_state.md R38, 60_exceptions.md R250). -/
inductive ErrCode where
  | none
  | truncatedStream
  | channelMap
  deriving DecidableEq, Repr, Inhabited

/-- The three kinds of event (00_scope.md R13, 30_encoding.md R86). -/
inductive Event where
  | resetObserved (i : Index)
  | clockEdge (i : Index)
  | addressDecoded (i : Index) (a : Addr)
  deriving DecidableEq, Repr, Inhabited

/-- The four configuration registers (10_state.md R31, R40). -/
structure RunConfig where
  chanMap : Word
  ctrl : Word
  limitLo : Word
  limitHi : Word
  deriving DecidableEq, Repr, Inhabited

/-- One host interaction, an atomic transition of the block (44_run_control.md R230, 92_eei_decisions.md D1). -/
inductive HostAccess where
  /-- A register write: register number and value (10_state.md R40). -/
  | write (r : Nat) (v : Word)
  /-- A register read (10_state.md R40). -/
  | read (r : Nat)
  /-- A read of the event stream (44_run_control.md R230). -/
  | readEvents
  /-- A block reset (70_reset_and_hazards.md R280). -/
  | blockReset
  deriving DecidableEq, Repr, Inhabited

/-- What a host read returned. -/
inductive Reply where
  | nothing
  | word (v : Word)
  | events (es : List Event)
  deriving DecidableEq, Repr, Inhabited

end Sys2Proof
end

