-- ==== Sys2Proof/Config.lean ====
section
/-! DEFINITION. The free values: what the spec leaves unspecified, as constants without a body.
The block's named literals (latch delay, default map, reset values of the configuration) stand in
Decode.lean and Machine/Operands.lean, beside the rules that use them. -/

namespace Sys2Proof.Config

/-! 10_state.md R52 and 93_implementation_defined.md section 3: after a block reset and before the first Start
the decoder state, the held byte, `cfgRun` and the events are unspecified, "any value". The argument is the
number of the block reset (`State.draws`). Log entry 4. -/

opaque unspecifiedPastReset : Nat → Bool
opaque unspecifiedPrevClockHigh : Nat → Bool
opaque unspecifiedPending : Nat → Option Index
opaque unspecifiedIdx : Nat → Index
opaque unspecifiedHeldByte : Nat → Option Byte
opaque unspecifiedCfgRun : Nat → RunConfig
opaque unspecifiedEvents : Nat → List Event

end Sys2Proof.Config
end

