-- ==== Sys2Proof/Syntax.lean ====
section
/-! DEFINITION. The operations of the block: one constructor per row of opcode_table.json (00_scope.md R14). -/

namespace Sys2Proof

/-- An operation with the operands its row names. A `smp` is the current sample; a byte is `v[7:0]` of a BYTE_IN
write. Operations whose rows test no bit and use no bit of their carrier have no operand. -/
inductive Instr where
  /-- BYTE_LOW, 40_sample_source.md R120. -/
  | byteLow (b : Byte)
  /-- BYTE_HIGH, 40_sample_source.md R121. -/
  | byteHigh (b : Byte)
  /-- SAMPLE_STEP, 44_run_control.md R210. -/
  | sampleStep (smp : Sample)
  /-- RESET_DETECT, 41_reset_tracker.md R140. -/
  | resetDetect (smp : Sample)
  /-- RESET_HOLD, 41_reset_tracker.md R141. -/
  | resetHold (smp : Sample)
  /-- LATCH_DECODE, 43_address_latch.md R182. -/
  | latchDecode (smp : Sample)
  /-- LATCH_REJECT, 43_address_latch.md R184. -/
  | latchReject (smp : Sample)
  /-- LATCH_IDLE, 43_address_latch.md R185. -/
  | latchIdle (smp : Sample)
  /-- EDGE_RISE, 42_clock_edge_detector.md R160. -/
  | edgeRise (smp : Sample)
  /-- EDGE_NONE, 42_clock_edge_detector.md R163. -/
  | edgeNone (smp : Sample)
  /-- CLOCK_UPDATE, 42_clock_edge_detector.md R161. -/
  | clockUpdate (smp : Sample)
  /-- INDEX_ADVANCE, 44_run_control.md R213. -/
  | indexAdvance
  /-- LIMIT_STOP, 44_run_control.md R220. -/
  | limitStop
  /-- INDEX_EXHAUST, 44_run_control.md R221. -/
  | indexExhaust
  /-- START, 44_run_control.md R215. -/
  | start
  /-- START_BAD_MAP, 44_run_control.md R215, 60_exceptions.md R252. -/
  | startBadMap
  /-- END_OF_STREAM_TRUNCATED, 40_sample_source.md R122. -/
  | endOfStreamTruncated
  /-- END_OF_STREAM_EMPTY, 44_run_control.md R218. -/
  | endOfStreamEmpty
  /-- END_OF_STREAM_OK, 44_run_control.md R219. -/
  | endOfStreamOk
  /-- CONFIG_WRITE, 44_run_control.md R222: register number and value. -/
  | configWrite (r : Nat) (v : Word)
  deriving DecidableEq, Repr

end Sys2Proof
end

