-- ==== Sys2Proof/WellFormed.lean ====
section
/-! DEFINITION. Which operations are well formed. -/

namespace Sys2Proof

/-- An operation the encodings of the spec can name. Every sample and every byte is legal (30_encoding.md R95);
CONFIG_WRITE names one of the registers 0 to 3 (44_run_control.md R222, 10_state.md R40). -/
def Instr.wellFormed : Instr → Bool
  | .byteLow _ => true
  | .byteHigh _ => true
  | .sampleStep _ => true
  | .resetDetect _ => true
  | .resetHold _ => true
  | .latchDecode _ => true
  | .latchReject _ => true
  | .latchIdle _ => true
  | .edgeRise _ => true
  | .edgeNone _ => true
  | .clockUpdate _ => true
  | .indexAdvance => true
  | .limitStop => true
  | .indexExhaust => true
  | .start => true
  | .startBadMap => true
  | .endOfStreamTruncated => true
  | .endOfStreamEmpty => true
  | .endOfStreamOk => true
  | .configWrite r _ => decide (r ≤ 3)

end Sys2Proof
end

