-- ==== Sys2Proof/Decode.lean ====
section
/-! DEFINITION. The encodings: registers and their fields, the channel map, and the operation map that selects an
operation from what carries it (a register write or a sample) and the decoder state, with the encoder after it. -/

namespace Sys2Proof

/-! Register numbers, 10_state.md R40. -/

def regChanMap : Nat := 0
def regCtrl : Nat := 1
def regLimitLo : Nat := 2
def regLimitHi : Nat := 3
def regStatus : Nat := 4
def regCountLo : Nat := 5
def regCountHi : Nat := 6
def regPendingLo : Nat := 7
def regPendingHi : Nat := 8
def regCmd : Nat := 9
def regByteIn : Nat := 10

/-! Reset values of the configuration registers, 10_state.md R40. -/

/-- The default channel map, 30_encoding.md R82. -/
def defaultChanMap : Word := 0x00F43210#32

/-- The reset value of CTRL, 10_state.md R42: the edge-reporting variant. -/
def defaultCtrl : Word := 0x00000001#32

/-- The bound of the bounded variant, 00_scope.md R9, 10_state.md R43. -/
def boundedLimit : Nat := 200200

/-- The configuration after a block reset, 10_state.md R40, R52. -/
def RunConfig.atReset : RunConfig where
  chanMap := defaultChanMap
  ctrl := defaultCtrl
  limitLo := BitVec.ofNat 32 boundedLimit
  limitHi := BitVec.ofNat 32 (boundedLimit / 2 ^ 32)

/-! The fields of CHANMAP, 10_state.md R41. -/

def posReset (m : Word) : Nat := (m.extractLsb' 0 4).toNat
def posClock (m : Word) : Nat := (m.extractLsb' 4 4).toNat
def posCs1 (m : Word) : Nat := (m.extractLsb' 8 4).toNat
def posCs2 (m : Word) : Nat := (m.extractLsb' 12 4).toNat
def posAddrLow (m : Word) : Nat := (m.extractLsb' 16 4).toNat
def posAddrHigh (m : Word) : Nat := (m.extractLsb' 20 4).toNat

/-- A control position lies in the address range, 30_encoding.md R83. -/
def inAddrRange (m : Word) (p : Nat) : Bool := decide (posAddrLow m ≤ p) && decide (p ≤ posAddrHigh m)

/-- 30_encoding.md R83: when a channel map is legal. -/
def legalMap (m : Word) : Bool :=
  decide (posAddrHigh m = posAddrLow m + 11) &&
  (decide (posReset m ≠ posClock m) && decide (posReset m ≠ posCs1 m) && decide (posReset m ≠ posCs2 m) &&
    decide (posClock m ≠ posCs1 m) && decide (posClock m ≠ posCs2 m) && decide (posCs1 m ≠ posCs2 m)) &&
  (!inAddrRange m (posReset m) && !inAddrRange m (posClock m) &&
    !inAddrRange m (posCs1 m) && !inAddrRange m (posCs2 m))

/-! The logical channels of a sample, 30_encoding.md R81. -/

def resetBit (m : Word) (smp : Sample) : Bool := smp.getLsbD (posReset m)
def clockBit (m : Word) (smp : Sample) : Bool := smp.getLsbD (posClock m)
def cs1Bit (m : Word) (smp : Sample) : Bool := smp.getLsbD (posCs1 m)
def cs2Bit (m : Word) (smp : Sample) : Bool := smp.getLsbD (posCs2 m)

/-- `s[cfg.pos[ADDR_HIGH] : cfg.pos[ADDR_LOW]]` as a 12-bit value, 43_address_latch.md R183. A legal map makes the
slice exactly 12 bits wide (30_encoding.md R83); a map that no run can have is log entry 7. -/
def addrField (m : Word) (smp : Sample) : Addr :=
  (smp.extractLsb (posAddrHigh m) (posAddrLow m)).setWidth 12

/-- Both chip selects asserted: CS1 at 0 and CS2 at 1, 43_address_latch.md R188. -/
def chipSelected (m : Word) (smp : Sample) : Bool := !cs1Bit m smp && cs2Bit m smp

/-! The fields of CTRL and the sample limit, 10_state.md R42, R43. -/

def RunConfig.emitClockEdges (c : RunConfig) : Bool := c.ctrl.getLsbD 0
def RunConfig.limitEnable (c : RunConfig) : Bool := c.ctrl.getLsbD 1
def RunConfig.edgeRequiresReset (c : RunConfig) : Bool := c.ctrl.getLsbD 2

/-- `LIMIT = {LIMIT_HI, LIMIT_LO}`, 10_state.md R43. -/
def RunConfig.limit (c : RunConfig) : Index := c.limitHi ++ c.limitLo

/-- `sampleLimit`: `some LIMIT` when LIMIT_ENABLE is 1, else `none`, 10_state.md R42. -/
def RunConfig.sampleLimit (c : RunConfig) : Option Index := if c.limitEnable then some c.limit else none

/-- The writable bits of CHANMAP, 10_state.md R41. -/
def chanMapMask : Word := 0x00FFFFFF#32

/-- The writable bits of CTRL, 10_state.md R42. -/
def ctrlMask : Word := 0x00000007#32

/-- `cfg[r] <- v with reserved bits forced to 0`, 44_run_control.md R222. Other register numbers are no configuration
register (10_state.md R40). -/
def RunConfig.put (c : RunConfig) (r : Nat) (v : Word) : RunConfig :=
  if r = regChanMap then { c with chanMap := v &&& chanMapMask }
  else if r = regCtrl then { c with ctrl := v &&& ctrlMask }
  else if r = regLimitLo then { c with limitLo := v }
  else if r = regLimitHi then { c with limitHi := v }
  else c

/-- `s = lo | (b << 8)`, 20_memory.md R61, 40_sample_source.md R121. -/
def assemble (b lo : Byte) : Sample := b ++ lo

/-! The operation map: 30_encoding.md R94 and the "condition" column of opcode_table.json. -/

/-- What carries an operation: a host register write, a sample, or nothing (the "internal" rows). -/
inductive Carrier where
  | regWrite (r : Nat) (v : Word)
  | sample (smp : Sample)
  | internal
  deriving DecidableEq, Repr

/-- The points at which the block selects an operation: three for register writes (CMD has two, EndOfStream before
Start, 10_state.md R49), one for an assembled sample, and the stages of the per-sample step in the order of
44_run_control.md R211. -/
inductive Stage where
  | config
  | byteIn
  | endOfStream
  | start
  | sample
  | reset
  | latch
  | edge
  | clock
  | index
  | limit
  | exhaust
  deriving DecidableEq, Repr

/-- The decoder-state conditions the selection reads. -/
structure View where
  running : Bool
  held : Bool
  idxZero : Bool
  cfgMapLegal : Bool
  chanMap : Word
  pastReset : Bool
  prevClockHigh : Bool
  windowOpen : Bool
  limitHit : Bool
  idxMax : Bool
  deriving DecidableEq, Repr

/-- Why no operation is taken: the named rejections of the decoder. None of them changes the block's state. -/
inductive Ignored where
  /-- A BYTE_IN write or an EndOfStream outside a run (44_run_control.md R233, R217). -/
  | notRunning
  /-- A Start or a configuration write during a run (44_run_control.md R216, R231). -/
  | alreadyRunning
  /-- The CMD value does not have this command's bit (10_state.md R49). -/
  | commandBitClear
  /-- A write to a read-only register (10_state.md R40). -/
  | readOnlyRegister
  /-- A write to a register number above 10 (10_state.md R40). -/
  | noSuchRegister
  /-- The register is not the one this stage listens to. -/
  | otherRegister
  /-- A stop check whose condition does not hold (44_run_control.md R220, R221). -/
  | noStop
  /-- This stage is not fed by this kind of carrier. -/
  | wrongCarrier
  deriving DecidableEq, Repr

/-- What a stage selects. -/
inductive Selected where
  | op (i : Instr)
  | ignored (why : Ignored)
  deriving DecidableEq, Repr

/-- CONFIG_WRITE, 44_run_control.md R222, R231; 10_state.md R40. -/
def decodeConfig (r : Nat) (v : Word) (c : View) : Selected :=
  if r ≤ regLimitHi then
    if c.running then .ignored .alreadyRunning else .op (.configWrite r v)
  else if r ≤ regPendingHi then .ignored .readOnlyRegister
  else if r ≤ regByteIn then .ignored .otherRegister
  else .ignored .noSuchRegister

/-- BYTE_LOW and BYTE_HIGH, 10_state.md R49, 40_sample_source.md R120, R121. -/
def decodeByteIn (r : Nat) (v : Word) (c : View) : Selected :=
  if r ≠ regByteIn then .ignored .otherRegister
  else if !c.running then .ignored .notRunning
  else if c.held then .op (.byteHigh (v.setWidth 8))
  else .op (.byteLow (v.setWidth 8))

/-- The three END_OF_STREAM rows, 44_run_control.md R217. -/
def decodeEndOfStream (r : Nat) (v : Word) (c : View) : Selected :=
  if r ≠ regCmd then .ignored .otherRegister
  else if !v.getLsbD 1 then .ignored .commandBitClear
  else if !c.running then .ignored .notRunning
  else if c.held then .op .endOfStreamTruncated
  else if c.idxZero then .op .endOfStreamEmpty
  else .op .endOfStreamOk

/-- START and START_BAD_MAP, 44_run_control.md R215, R216. -/
def decodeStart (r : Nat) (v : Word) (c : View) : Selected :=
  if r ≠ regCmd then .ignored .otherRegister
  else if !v.getLsbD 0 then .ignored .commandBitClear
  else if c.running then .ignored .alreadyRunning
  else if c.cfgMapLegal then .op .start
  else .op .startBadMap

/-- RESET_DETECT or RESET_HOLD, 41_reset_tracker.md R140, R141. -/
def decodeReset (smp : Sample) (c : View) : Instr :=
  if resetBit c.chanMap smp && !c.pastReset then .resetDetect smp else .resetHold smp

/-- LATCH_DECODE, LATCH_REJECT or LATCH_IDLE, 43_address_latch.md R182, R184, R185. -/
def decodeLatch (smp : Sample) (c : View) : Instr :=
  if c.windowOpen then
    if chipSelected c.chanMap smp then .latchDecode smp else .latchReject smp
  else .latchIdle smp

/-- EDGE_RISE or EDGE_NONE, 42_clock_edge_detector.md R160, R163. -/
def decodeEdge (smp : Sample) (c : View) : Instr :=
  if clockBit c.chanMap smp && !c.prevClockHigh then .edgeRise smp else .edgeNone smp

/-- The stages that listen to register writes. -/
def decodeWrite (st : Stage) (r : Nat) (v : Word) (c : View) : Selected :=
  match st with
  | .config => decodeConfig r v c
  | .byteIn => decodeByteIn r v c
  | .endOfStream => decodeEndOfStream r v c
  | .start => decodeStart r v c
  | _ => .ignored .wrongCarrier

/-- The stages a sample feeds: SAMPLE_STEP, which is performed only while RUNNING (44_run_control.md R210), and its
sub-operations, of which each stage always has one (30_encoding.md R94). -/
def decodeSample (st : Stage) (smp : Sample) (c : View) : Selected :=
  match st with
  | .sample => if c.running then .op (.sampleStep smp) else .ignored .notRunning
  | .reset => .op (decodeReset smp c)
  | .latch => .op (decodeLatch smp c)
  | .edge => .op (decodeEdge smp c)
  | .clock => .op (.clockUpdate smp)
  | .index => .op .indexAdvance
  | _ => .ignored .wrongCarrier

/-- The stop checks, LIMIT_STOP and INDEX_EXHAUST (44_run_control.md R220, R221). -/
def decodeInternal (st : Stage) (c : View) : Selected :=
  match st with
  | .limit => if c.limitHit then .op .limitStop else .ignored .noStop
  | .exhaust => if c.idxMax && !c.limitHit then .op .indexExhaust else .ignored .noStop
  | _ => .ignored .wrongCarrier

/-- The decoder: total on every stage, carrier and state; what it does not take it rejects by name. -/
def decode (st : Stage) (w : Carrier) (c : View) : Selected :=
  match w with
  | .regWrite r v => decodeWrite st r v c
  | .sample smp => decodeSample st smp c
  | .internal => decodeInternal st c

/-- The stages a host register write passes, in order (10_state.md R40, R49): CMD performs EndOfStream first and
Start second. -/
def writeStages (r : Nat) : List Stage :=
  if r = regCmd then [.endOfStream, .start]
  else if r = regByteIn then [.byteIn]
  else [.config]

/-- The stages a sample passes, in the order of 44_run_control.md R211, with what carries each. -/
def sampleStages (smp : Sample) : List (Stage × Carrier) :=
  [(.reset, .sample smp), (.latch, .sample smp), (.edge, .sample smp), (.clock, .sample smp),
   (.index, .sample smp), (.limit, .internal), (.exhaust, .internal)]

/-- The "condition" column of opcode_table.json: when the row is taken. -/
def taken (c : View) : Instr → Bool
  | .byteLow _ => c.running && !c.held
  | .byteHigh _ => c.running && c.held
  | .sampleStep _ => c.running
  | .resetDetect smp => resetBit c.chanMap smp && !c.pastReset
  | .resetHold smp => !resetBit c.chanMap smp || c.pastReset
  | .latchDecode smp => c.windowOpen && (!cs1Bit c.chanMap smp && cs2Bit c.chanMap smp)
  | .latchReject smp => c.windowOpen && (cs1Bit c.chanMap smp || !cs2Bit c.chanMap smp)
  | .latchIdle _ => !c.windowOpen
  | .edgeRise smp => clockBit c.chanMap smp && !c.prevClockHigh
  | .edgeNone smp => !clockBit c.chanMap smp || c.prevClockHigh
  | .clockUpdate _ => true
  | .indexAdvance => true
  | .limitStop => c.limitHit
  | .indexExhaust => c.idxMax && !c.limitHit
  | .start => !c.running && c.cfgMapLegal
  | .startBadMap => !c.running && !c.cfgMapLegal
  | .endOfStreamTruncated => c.running && c.held
  | .endOfStreamEmpty => c.running && !c.held && c.idxZero
  | .endOfStreamOk => c.running && !c.held && !c.idxZero
  | .configWrite _ _ => !c.running

/-- The encoder: the stage and the carrier of an operation, bits the row ignores being 0 ("format", "match" and
"source_fields" of opcode_table.json). -/
def encode : Instr → Stage × Carrier
  | .byteLow b => (.byteIn, .regWrite regByteIn (b.setWidth 32))
  | .byteHigh b => (.byteIn, .regWrite regByteIn (b.setWidth 32))
  | .sampleStep smp => (.sample, .sample smp)
  | .resetDetect smp => (.reset, .sample smp)
  | .resetHold smp => (.reset, .sample smp)
  | .latchDecode smp => (.latch, .sample smp)
  | .latchReject smp => (.latch, .sample smp)
  | .latchIdle smp => (.latch, .sample smp)
  | .edgeRise smp => (.edge, .sample smp)
  | .edgeNone smp => (.edge, .sample smp)
  | .clockUpdate smp => (.clock, .sample smp)
  | .indexAdvance => (.index, .sample 0#16)
  | .limitStop => (.limit, .internal)
  | .indexExhaust => (.exhaust, .internal)
  | .start => (.start, .regWrite regCmd 0x00000001#32)
  | .startBadMap => (.start, .regWrite regCmd 0x00000001#32)
  | .endOfStreamTruncated => (.endOfStream, .regWrite regCmd 0x00000002#32)
  | .endOfStreamEmpty => (.endOfStream, .regWrite regCmd 0x00000002#32)
  | .endOfStreamOk => (.endOfStream, .regWrite regCmd 0x00000002#32)
  | .configWrite r v => (.config, .regWrite r v)

/-! The host's probe of the table's words. Several rows share each word and the decoder state tells them apart, so a
word alone names one row only by a convention: log entry 8. -/

/-- A run in progress whose latch window is open, reset not yet seen, clock low, under the default map. -/
def View.probe : View where
  running := true
  held := false
  idxZero := true
  cfgMapLegal := true
  chanMap := defaultChanMap
  pastReset := false
  prevClockHigh := false
  windowOpen := true
  limitHit := false
  idxMax := false

/-- The operation of a selection. -/
def Selected.op? : Selected → Option Instr
  | .op i => some i
  | .ignored _ => none

/-- A sample word of the table: the first sub-operation that its set control bits select, of RESET_DETECT,
LATCH_DECODE and EDGE_RISE; with none of these, LATCH_REJECT when CS1 is deasserted, else RESET_HOLD. -/
def decodeTableSample (smp : Sample) : Option Instr :=
  if resetBit defaultChanMap smp then (decode .reset (.sample smp) .probe).op?
  else if chipSelected defaultChanMap smp then (decode .latch (.sample smp) .probe).op?
  else if clockBit defaultChanMap smp then (decode .edge (.sample smp) .probe).op?
  else if cs1Bit defaultChanMap smp then (decode .latch (.sample smp) .probe).op?
  else (decode .reset (.sample smp) .probe).op?

/-- A register value of the table: as a CMD write EndOfStream in a fresh run, else Start with no run in progress; with
neither command bit, a byte written to BYTE_IN as the first of its pair. -/
def decodeTableWrite (v : Word) : Option Instr :=
  if v.getLsbD 1 then (decode .endOfStream (.regWrite regCmd v) .probe).op?
  else if v.getLsbD 0 then (decode .start (.regWrite regCmd v) { View.probe with running := false }).op?
  else (decode .byteIn (.regWrite regByteIn v) .probe).op?

/-- The operation a word of opcode_table.json names: no bits the internal rows, up to 16 bits a sample word, up to 32
bits a register value. -/
def decodeTableWord (nbits w : Nat) : Option Instr :=
  if nbits ≤ 8 then
    if w = 0 then (decode .limit .internal { View.probe with limitHit := true }).op? else none
  else if nbits ≤ 16 then
    if w < 2 ^ 16 then decodeTableSample (BitVec.ofNat 16 w) else none
  else if nbits ≤ 32 then
    if w < 2 ^ 32 then decodeTableWrite (BitVec.ofNat 32 w) else none
  else none

end Sys2Proof
end

