-- ==== Sys2Proof/Machine/State.lean ====
section
/-! DEFINITION. The state of the block (10_state.md R31), the reasons a step can stop, and the state after reset. -/

namespace Sys2Proof.Machine

/-- The block's state is the tuple of 10_state.md R31; the last three fields are the model's own. -/
structure State where
  /-- The RESET channel has been seen set in this run, R33. -/
  pastReset : Bool
  /-- The CLOCK bit of the previous sample, R34. -/
  prevClockHigh : Bool
  /-- The index of the pending rising edge, R35. -/
  pendingRiseIndex : Option Index
  /-- The index of the next sample, R36. -/
  idx : Index
  /-- The low byte whose high byte has not arrived, R37. -/
  heldByte : Option Byte
  /-- The run status, R38. -/
  run : RunStatus
  /-- The error code of an ERROR run, R38. -/
  err : ErrCode
  /-- Completion flag EMPTY, R38. -/
  empty : Bool
  /-- Completion flag LIMIT_REACHED, R38. -/
  limitReached : Bool
  /-- CHANMAP, CTRL, LIMIT_LO and LIMIT_HI, R40 to R43. -/
  cfg : RunConfig
  /-- The configuration latched at Start, R44. -/
  cfgRun : RunConfig
  /-- The event stream of the run, oldest first, R45. -/
  events : List Event
  /-- The model's own: the host interactions still to come, oldest first (log entries 1 and 2). -/
  host : List HostAccess
  /-- The model's own: what the last host read returned (log entry 9). -/
  reply : Reply
  /-- The model's own: the number of block resets performed, the argument of the free values (log entry 4). -/
  draws : Nat
  deriving DecidableEq, Repr

/-- Why the model stops. The block's own errors are no faults: they end the run in ERROR, a next state
(60_exceptions.md R254). -/
inductive Fault where
  /-- INDEX_ADVANCE at `idx = 2^64 - 1`, whose successor has no 64-bit value. 44_run_control.md R221 ends every run
  before it ("`st.idx` never wraps"), so no run reaches it. Raised by INDEX_ADVANCE, SAMPLE_STEP and BYTE_HIGH.
  Safe: the model stops rather than wrap. Log entry 6. -/
  | indexOverflow
  deriving DecidableEq, Repr

/-- Why an operation has no meaning. -/
inductive Refusal where
  /-- An operation whose arm of `exec` has no meaning yet, by its mnemonic. Raised by `exec` only; no arm raises it in
  this model. Safe: a refused operation proves nothing. -/
  | notModelled (mnemonic : String)
  deriving DecidableEq, Repr

/-- The block after a block reset (10_state.md R52). `pastReset`, `prevClockHigh`, `pendingRiseIndex`, `idx`,
`heldByte`, `cfgRun` and `events` are unspecified there: their values here are DESIGN CHOICE, unsafe, log entry 3. -/
def State.reset : State where
  pastReset := false
  prevClockHigh := false
  pendingRiseIndex := none
  idx := 0#64
  heldByte := none
  run := .idle
  err := .none
  empty := false
  limitReached := false
  cfg := RunConfig.atReset
  cfgRun := RunConfig.atReset
  events := []
  host := []
  reply := .nothing
  draws := 0

end Sys2Proof.Machine
end

