-- ==== Sys2Proof/Machine/Ops.lean ====
section
/-! DEFINITION. The named operations over the state: emitting an event, raising an error, ending a run, initialising
one, and the block reset. -/

namespace Sys2Proof.Machine

/-- What a meaning answers. -/
abbrev Result := Host.Outcome State Fault Refusal

/-- Sequencing of sub-steps: the next one reads the state the earlier one left (00_scope.md R11). -/
def andThen (r : Result) (f : State → Result) : Result :=
  match r with
  | .next s => f s
  | .fault e => .fault e
  | .refused e => .refused e

/-- `Emit(e)`: append to the output event stream (00_scope.md R12, 10_state.md R45). -/
def State.emit (s : State) (e : Event) : State := { s with events := s.events ++ [e] }

/-- `raise Error(code)`: taking an exception, as one transition (60_exceptions.md R254). The block has no handler and
no saved state, and no return from an error but a new Start (60_exceptions.md R255). -/
def State.raiseError (s : State) (code : ErrCode) : State := { s with run := .error, err := code }

/-- `Finish(limitReached)` (00_scope.md R12, 44_run_control.md R220, R221). -/
def State.finishLimit (s : State) : State := { s with run := .done, limitReached := true }

/-- `Finish(empty)` (44_run_control.md R218). -/
def State.finishEmpty (s : State) : State := { s with run := .done, empty := true }

/-- `Finish()` (44_run_control.md R219). -/
def State.finishOk (s : State) : State := { s with run := .done, empty := false, limitReached := false }

/-- The values every Start writes before it checks the map (44_run_control.md R215, 10_state.md R53). -/
def State.initRun (s : State) : State :=
  { s with pastReset := false, prevClockHigh := false, pendingRiseIndex := none, idx := 0#64, heldByte := none,
           events := [], err := .none, empty := false, limitReached := false }

/-- `cfgRun <- cfg; st.run <- RUNNING` (44_run_control.md R215, 10_state.md R44). -/
def State.latchRun (s : State) : State := { s with cfgRun := s.cfg, run := .running }

/-- A write of `cfg` (44_run_control.md R222). -/
def State.putConfig (s : State) (r : Nat) (v : Word) : State := { s with cfg := s.cfg.put r v }

/-- The host's view of a read: the model's own `reply`, nothing of the block (20_memory.md R64). -/
def State.answer (s : State) (r : Reply) : State := { s with reply := r }

/-- The block reset performed as a transition (70_reset_and_hazards.md R280): the values of 10_state.md R52, and a
free value for everything R52 leaves unspecified (log entry 4). -/
def State.blockReset (s : State) : State :=
  { s with pastReset := Config.unspecifiedPastReset (s.draws + 1),
           prevClockHigh := Config.unspecifiedPrevClockHigh (s.draws + 1),
           pendingRiseIndex := Config.unspecifiedPending (s.draws + 1),
           idx := Config.unspecifiedIdx (s.draws + 1),
           heldByte := Config.unspecifiedHeldByte (s.draws + 1),
           run := .idle, err := .none, empty := false, limitReached := false,
           cfg := RunConfig.atReset,
           cfgRun := Config.unspecifiedCfgRun (s.draws + 1),
           events := Config.unspecifiedEvents (s.draws + 1),
           draws := s.draws + 1 }

end Sys2Proof.Machine
end

