-- ==== Sys2Proof/Machine/Operands.lean ====
section
/-! DEFINITION. What the operations read: the channels of a sample under the run's map, the latch window, the stop
conditions, and the view of the state that selects an operation. -/

namespace Sys2Proof.Machine

/-- `LATCH_DELAY` (00_scope.md R9, 43_address_latch.md R186). -/
def latchDelay : Nat := 2

/-- `2^64 - 1`, the most samples a run processes (44_run_control.md R221). -/
def maxSamples : Nat := 2 ^ 64 - 1

/-- `s[cfg.pos[RESET]] = 1` (30_encoding.md R81; the map is the latched one, 10_state.md R44). -/
def State.resetSet (s : State) (smp : Sample) : Bool := resetBit s.cfgRun.chanMap smp

/-- `s[cfg.pos[CLOCK]]` (30_encoding.md R81). -/
def State.clockHigh (s : State) (smp : Sample) : Bool := clockBit s.cfgRun.chanMap smp

/-- `s[cfg.pos[CS1]] = 0 and s[cfg.pos[CS2]] = 1` (43_address_latch.md R182, R188). -/
def State.selected (s : State) (smp : Sample) : Bool := chipSelected s.cfgRun.chanMap smp

/-- The address of a sample (43_address_latch.md R183). -/
def State.address (s : State) (smp : Sample) : Addr := addrField s.cfgRun.chanMap smp

/-- `RESET(s) = 1 and st.pastReset = 0` (41_reset_tracker.md R140). -/
def State.resetDetected (s : State) (smp : Sample) : Bool := s.resetSet smp && !s.pastReset

/-- `i = n + 2` for the pending edge `n`, on natural numbers (43_address_latch.md R180, 00_scope.md R11). -/
def State.windowDue (s : State) : Bool :=
  match s.pendingRiseIndex with
  | some n => decide (s.idx.toNat = n.toNat + latchDelay)
  | none => false

/-- `Window(i)` (43_address_latch.md R180). -/
def State.window (s : State) : Bool := s.pastReset && s.windowDue

/-- `CLOCK(s) = 1 and st.prevClockHigh = 0` (42_clock_edge_detector.md R160). -/
def State.edgeRises (s : State) (smp : Sample) : Bool := s.clockHigh smp && !s.prevClockHigh

/-- `cfg.emitClockEdges = 1 and (cfg.edgeRequiresReset = 0 or st.pastReset = 1)` (42_clock_edge_detector.md R162). -/
def State.edgeReported (s : State) : Bool :=
  s.cfgRun.emitClockEdges && (!s.cfgRun.edgeRequiresReset || s.pastReset)

/-- `cfg.sampleLimit = some(N) and st.idx >= N` (44_run_control.md R220). -/
def State.limitHit (s : State) : Bool :=
  match s.cfgRun.sampleLimit with
  | some n => decide (n.toNat ≤ s.idx.toNat)
  | none => false

/-- `st.idx = 2^64 - 1` (44_run_control.md R221). -/
def State.idxMax (s : State) : Bool := decide (s.idx.toNat = maxSamples)

/-- `st.run = RUNNING`. -/
def State.isRunning (s : State) : Bool := decide (s.run = .running)

/-- The conditions the decoder selects an operation by (30_encoding.md R94). -/
def State.view (s : State) : View where
  running := s.isRunning
  held := s.heldByte.isSome
  idxZero := decide (s.idx = 0#64)
  cfgMapLegal := legalMap s.cfg.chanMap
  chanMap := s.cfgRun.chanMap
  pastReset := s.pastReset
  prevClockHigh := s.prevClockHigh
  windowOpen := s.window
  limitHit := s.limitHit
  idxMax := s.idxMax

end Sys2Proof.Machine
end

