-- ==== Sys2Proof/Machine/AddressLatch.lean ====
section
/-! DEFINITION. The address latch controller (43_address_latch.md). -/

namespace Sys2Proof.Machine

/-- `st.pendingRiseIndex <- none`: the window consumes the pending edge (43_address_latch.md R181). -/
def State.consumePending (s : State) : State := { s with pendingRiseIndex := none }

/-- `Emit(AddressDecoded{i, a})` (43_address_latch.md R182). -/
def State.emitAddress (s : State) (smp : Sample) : State := s.emit (.addressDecoded s.idx (s.address smp))

/-- Step 2 of the per-sample step, `LatchEval` (43_address_latch.md R182). -/
def State.latchEval (s : State) (smp : Sample) : State :=
  if s.window then
    if s.selected smp then s.consumePending.emitAddress smp else s.consumePending
  else s

/-- LATCH_DECODE (43_address_latch.md R182). -/
def execLatchDecode (smp : Sample) (s : State) : Result :=
  .next (if s.window && s.selected smp then s.consumePending.emitAddress smp else s)

/-- LATCH_REJECT (43_address_latch.md R184). -/
def execLatchReject (smp : Sample) (s : State) : Result :=
  .next (if s.window && !s.selected smp then s.consumePending else s)

/-- LATCH_IDLE (43_address_latch.md R185): it skips; no bit of the sample is read. -/
def execLatchIdle (_smp : Sample) (s : State) : Result := .next s

end Sys2Proof.Machine
end

