-- ==== Sys2Proof/Machine/ClockEdge.lean ====
section
/-! DEFINITION. The clock edge detector (42_clock_edge_detector.md). -/

namespace Sys2Proof.Machine

/-- `st.pendingRiseIndex <- some(i)` (42_clock_edge_detector.md R160). -/
def State.recordEdge (s : State) : State := { s with pendingRiseIndex := some s.idx }

/-- `ClockEdgeEvent(i)` (42_clock_edge_detector.md R162). -/
def State.clockEdgeEvent (s : State) : State := if s.edgeReported then s.emit (.clockEdge s.idx) else s

/-- The edge detection of step 3 of the per-sample step (44_run_control.md R210). -/
def State.edgeDetect (s : State) (smp : Sample) : State := if s.edgeRises smp then s.recordEdge.clockEdgeEvent else s

/-- `st.prevClockHigh <- s[cfg.pos[CLOCK]]` (42_clock_edge_detector.md R161). -/
def State.clockUpdate (s : State) (smp : Sample) : State := { s with prevClockHigh := s.clockHigh smp }

/-- EDGE_RISE (42_clock_edge_detector.md R160). -/
def execEdgeRise (smp : Sample) (s : State) : Result :=
  .next (if s.edgeRises smp then s.recordEdge.clockEdgeEvent else s)

/-- EDGE_NONE (42_clock_edge_detector.md R163): it skips, whatever the sample. -/
def execEdgeNone (_smp : Sample) (s : State) : Result := .next s

/-- CLOCK_UPDATE (42_clock_edge_detector.md R161). -/
def execClockUpdate (smp : Sample) (s : State) : Result := .next (s.clockUpdate smp)

end Sys2Proof.Machine
end

