-- ==== Sys2Proof/Machine/ResetTracker.lean ====
section
/-! DEFINITION. The reset assertion tracker (41_reset_tracker.md). -/

namespace Sys2Proof.Machine

/-- `st.pastReset <- 1; Emit(ResetObserved{i})` (41_reset_tracker.md R140). -/
def State.observeReset (s : State) : State := { s with pastReset := true }.emit (.resetObserved s.idx)

/-- Step 1 of the per-sample step (44_run_control.md R210). -/
def State.resetTracker (s : State) (smp : Sample) : State := if s.resetDetected smp then s.observeReset else s

/-- RESET_DETECT (41_reset_tracker.md R140). -/
def execResetDetect (smp : Sample) (s : State) : Result := .next (if s.resetDetected smp then s.observeReset else s)

/-- RESET_HOLD (41_reset_tracker.md R141): it skips, whatever the sample. -/
def execResetHold (_smp : Sample) (s : State) : Result := .next s

end Sys2Proof.Machine
end

