-- ==== Sys2Proof/Machine/RunControl.lean ====
section
/-! DEFINITION. The per-sample step and the run control (44_run_control.md). -/

namespace Sys2Proof.Machine

/-- `st.idx <- i + 1` on natural numbers, never wrapped (44_run_control.md R213, 00_scope.md R11; log entry 6). -/
def State.indexAdvance (s : State) : Result :=
  if s.idxMax then .fault .indexOverflow else .next { s with idx := BitVec.ofNat 64 (s.idx.toNat + 1) }

/-- Step 5 of the per-sample step (44_run_control.md R210, R220, R221). -/
def State.stopChecks (s : State) : State :=
  if s.limitHit then s.finishLimit
  else if s.idxMax then s.finishLimit
  else s

/-- Steps 1 to 3 of the per-sample step: reset detection, latch evaluation, edge detection and clock update, in this
order (44_run_control.md R210, R211). -/
def State.track (s : State) (smp : Sample) : State :=
  (((s.resetTracker smp).latchEval smp).edgeDetect smp).clockUpdate smp

/-- `SampleStep(s)` (44_run_control.md R210). -/
def State.sampleStep (s : State) (smp : Sample) : Result :=
  andThen (s.track smp).indexAdvance fun t => .next t.stopChecks

/-- `Start()` after the values every Start writes, for a legal map (44_run_control.md R215); its last line is
LIMIT_STOP at index 0 (R220). -/
def State.beginRun (s : State) : State :=
  if s.initRun.latchRun.limitHit then s.initRun.latchRun.finishLimit else s.initRun.latchRun

/-- SAMPLE_STEP (44_run_control.md R210): performed only while RUNNING. -/
def execSampleStep (smp : Sample) (s : State) : Result := if s.isRunning then s.sampleStep smp else .next s

/-- INDEX_ADVANCE (44_run_control.md R213). -/
def execIndexAdvance (s : State) : Result := s.indexAdvance

/-- LIMIT_STOP (44_run_control.md R220). -/
def execLimitStop (s : State) : Result := .next (if s.limitHit then s.finishLimit else s)

/-- INDEX_EXHAUST (44_run_control.md R221): only where no sample limit stopped the run first. -/
def execIndexExhaust (s : State) : Result := .next (if s.idxMax && !s.limitHit then s.finishLimit else s)

/-- START (44_run_control.md R215, R216). -/
def execStart (s : State) : Result :=
  .next (if !s.isRunning && legalMap s.cfg.chanMap then s.beginRun else s)

/-- START_BAD_MAP (44_run_control.md R215, 60_exceptions.md R252). -/
def execStartBadMap (s : State) : Result :=
  .next (if !s.isRunning && !legalMap s.cfg.chanMap then s.initRun.raiseError .channelMap else s)

/-- END_OF_STREAM_EMPTY (44_run_control.md R218). -/
def execEndOfStreamEmpty (s : State) : Result :=
  .next (if s.isRunning && !s.heldByte.isSome && decide (s.idx = 0#64) then s.finishEmpty else s)

/-- END_OF_STREAM_OK (44_run_control.md R219). -/
def execEndOfStreamOk (s : State) : Result :=
  .next (if s.isRunning && !s.heldByte.isSome && !decide (s.idx = 0#64) then s.finishOk else s)

/-- CONFIG_WRITE (44_run_control.md R222, R231). -/
def execConfigWrite (r : Nat) (v : Word) (s : State) : Result := .next (if s.isRunning then s else s.putConfig r v)

end Sys2Proof.Machine
end

