-- ==== Sys2Proof/Machine/SampleSource.lean ====
section
/-! DEFINITION. The Sample Source: byte-pair assembly (40_sample_source.md). -/

namespace Sys2Proof.Machine

/-- `st.heldByte <- some(b)` (40_sample_source.md R120). -/
def State.holdByte (s : State) (b : Byte) : State := { s with heldByte := some b }

/-- `st.heldByte <- none` (40_sample_source.md R121, R122). -/
def State.dropByte (s : State) : State := { s with heldByte := none }

/-- BYTE_LOW (40_sample_source.md R120). -/
def execByteLow (b : Byte) (s : State) : Result :=
  .next (if s.isRunning && !s.heldByte.isSome then s.holdByte b else s)

/-- BYTE_HIGH (40_sample_source.md R121): `s <- {b, lo}`, the held byte is taken, then `SampleStep(s)`. -/
def execByteHigh (b : Byte) (s : State) : Result :=
  match s.heldByte with
  | some lo => if s.isRunning then s.dropByte.sampleStep (assemble b lo) else .next s
  | none => .next s

/-- END_OF_STREAM_TRUNCATED (40_sample_source.md R122, 60_exceptions.md R251). -/
def execEndOfStreamTruncated (s : State) : Result :=
  .next (if s.isRunning && s.heldByte.isSome then s.dropByte.raiseError .truncatedStream else s)

end Sys2Proof.Machine
end

