-- ==== Sys2Proof/Machine/Dispatch.lean ====
section
/-! DEFINITION. The one dispatch from an operation to its meaning. -/

namespace Sys2Proof.Machine

def exec (i : Instr) (s : State) : Host.Outcome State Fault Refusal :=
  match i with
  | .byteLow b => Sys2Proof.Machine.execByteLow b s
  | .byteHigh b => Sys2Proof.Machine.execByteHigh b s
  | .sampleStep smp => Sys2Proof.Machine.execSampleStep smp s
  | .resetDetect smp => Sys2Proof.Machine.execResetDetect smp s
  | .resetHold smp => Sys2Proof.Machine.execResetHold smp s
  | .latchDecode smp => Sys2Proof.Machine.execLatchDecode smp s
  | .latchReject smp => Sys2Proof.Machine.execLatchReject smp s
  | .latchIdle smp => Sys2Proof.Machine.execLatchIdle smp s
  | .edgeRise smp => Sys2Proof.Machine.execEdgeRise smp s
  | .edgeNone smp => Sys2Proof.Machine.execEdgeNone smp s
  | .clockUpdate smp => Sys2Proof.Machine.execClockUpdate smp s
  | .indexAdvance => Sys2Proof.Machine.execIndexAdvance s
  | .limitStop => Sys2Proof.Machine.execLimitStop s
  | .indexExhaust => Sys2Proof.Machine.execIndexExhaust s
  | .start => Sys2Proof.Machine.execStart s
  | .startBadMap => Sys2Proof.Machine.execStartBadMap s
  | .endOfStreamTruncated => Sys2Proof.Machine.execEndOfStreamTruncated s
  | .endOfStreamEmpty => Sys2Proof.Machine.execEndOfStreamEmpty s
  | .endOfStreamOk => Sys2Proof.Machine.execEndOfStreamOk s
  | .configWrite r v => Sys2Proof.Machine.execConfigWrite r v s

end Sys2Proof.Machine
end

