-- ==== Sys2Proof/Machine/Flags.lean ====
section
/-! DEFINITION. The status and observation registers (10_state.md R46 to R48). -/

namespace Sys2Proof.Machine

/-- STATUS.STATE (10_state.md R46). -/
def runBits : RunStatus → BitVec 2
  | .idle => 0b00#2
  | .running => 0b01#2
  | .done => 0b10#2
  | .error => 0b11#2

/-- STATUS.ERR_CODE (10_state.md R46, 60_exceptions.md R250). -/
def errBits : ErrCode → BitVec 2
  | .none => 0b00#2
  | .truncatedStream => 0b01#2
  | .channelMap => 0b10#2

/-- Before the first Start after a block reset (10_state.md R38): the decoder state and the events are unspecified. -/
def State.unstarted (s : State) : Bool := decide (s.run = .idle)

/-- STATUS bits 9:4, which read 0 after a block reset whatever they mirror (10_state.md R46). -/
def State.statusFlags (s : State) : BitVec 6 :=
  if s.unstarted then 0#6
  else
    BitVec.ofBool s.heldByte.isSome ++ BitVec.ofBool s.pendingRiseIndex.isSome ++ BitVec.ofBool s.prevClockHigh ++
      BitVec.ofBool s.pastReset ++ BitVec.ofBool s.limitReached ++ BitVec.ofBool s.empty

/-- STATUS (10_state.md R46). -/
def State.statusWord (s : State) : Word := 0#22 ++ s.statusFlags ++ errBits s.err ++ runBits s.run

/-- COUNT_HI:COUNT_LO (10_state.md R47); unspecified until the first Start (R40). -/
def State.count (s : State) : Index := if s.unstarted then Config.unspecifiedIdx s.draws else s.idx

/-- PENDING_HI:PENDING_LO (10_state.md R48); unspecified until the first Start (R40). -/
def State.pendingCount (s : State) : Index :=
  ((if s.unstarted then Config.unspecifiedPending s.draws else s.pendingRiseIndex).getD 0#64)

/-- The event stream as the host reads it (10_state.md R45); unspecified until the first Start (R52). -/
def State.eventsSeen (s : State) : List Event := if s.unstarted then Config.unspecifiedEvents s.draws else s.events

/-- A register read (10_state.md R40, R46 to R49): a write-only register and a register number above 10 read 0
(93_implementation_defined.md section 4). -/
def State.readReg (s : State) (r : Nat) : Word :=
  if r = regChanMap then s.cfg.chanMap
  else if r = regCtrl then s.cfg.ctrl
  else if r = regLimitLo then s.cfg.limitLo
  else if r = regLimitHi then s.cfg.limitHi
  else if r = regStatus then s.statusWord
  else if r = regCountLo then s.count.extractLsb' 0 32
  else if r = regCountHi then s.count.extractLsb' 32 32
  else if r = regPendingLo then s.pendingCount.extractLsb' 0 32
  else if r = regPendingHi then s.pendingCount.extractLsb' 32 32
  else 0#32

end Sys2Proof.Machine
end

