-- ==== Sys2Proof/Machine/EventFormat.lean ====
section
/-! DEFINITION. How an event leaves the block: its 80-bit record (30_encoding.md R90) and its text line (R91). -/

namespace Sys2Proof.Machine

/-- KIND of an event record (30_encoding.md R90). -/
def eventKind : Event → BitVec 2
  | .resetObserved _ => 0b01#2
  | .addressDecoded _ _ => 0b10#2
  | .clockEdge _ => 0b11#2

/-- The sample index an event carries (30_encoding.md R86). -/
def eventIndex : Event → Index
  | .resetObserved i => i
  | .addressDecoded i _ => i
  | .clockEdge i => i

/-- ADDRESS of an event record: 0 for the kinds without one (30_encoding.md R90). -/
def eventAddress : Event → Addr
  | .resetObserved _ => 0#12
  | .addressDecoded _ a => a
  | .clockEdge _ => 0#12

/-- The 80-bit event record (30_encoding.md R90). -/
def eventRecord (e : Event) : Record := eventKind e ++ 0#2 ++ eventIndex e ++ eventAddress e

/-- A digit 0 to 15, uppercase (30_encoding.md R91). -/
def digitChar (d : Nat) : Char := if d < 10 then Char.ofNat (48 + d) else Char.ofNat (55 + d)

/-- The decimal digits of `n` before `acc`, most significant first, without leading zeros (30_encoding.md R91);
`fuel` bounds the number of digits. -/
def decimalInto : Nat → Nat → List Char → List Char
  | 0, _, acc => acc
  | fuel + 1, n, acc =>
    if n < 10 then digitChar n :: acc else decimalInto fuel (n / 10) (digitChar (n % 10) :: acc)

/-- A sample index in decimal: a 64-bit index has at most 20 digits. -/
def decimalIndex (i : Index) : List Char := decimalInto 20 i.toNat []

/-- A 12-bit address as exactly three uppercase hexadecimal digits (30_encoding.md R91). -/
def hexAddress (a : Addr) : List Char :=
  [digitChar (a.toNat / 256), digitChar (a.toNat / 16 % 16), digitChar (a.toNat % 16)]

/-- One line of the text log, its line feed included (30_encoding.md R91). -/
def logLine : Event → List Char
  | .resetObserved i => ['R', 'S', 'T', ':', ' '] ++ decimalIndex i ++ ['\n']
  | .clockEdge i => ['P', 'h', 'i', '2', ' ', 'E', 'd', 'g', 'e', ':', ' '] ++ decimalIndex i ++ ['\n']
  | .addressDecoded _ a => ['F'] ++ hexAddress a ++ ['\n']

/-- The text log of the events the host reads (30_encoding.md R91). -/
def State.textLog (s : State) : List Char := s.eventsSeen.flatMap logLine

end Sys2Proof.Machine
end

