-- ==== Sys2Proof/Machine/HostPort.lean ====
section
/-! DEFINITION. The host's port: what each host interaction does (44_run_control.md R230), and a whole run as a
function (R234). -/

namespace Sys2Proof.Machine

/-- One selection point: run the operation it selects; a rejected write changes nothing. -/
def runStage (st : Stage) (w : Carrier) (s : State) : Result :=
  match decode st w s.view with
  | .op i => exec i s
  | .ignored _ => .next s

/-- The selection points in order, each on the state the earlier ones left. -/
def runStages : List (Stage × Carrier) → State → Result
  | [], s => .next s
  | (st, w) :: rest, s => andThen (runStage st w s) (runStages rest)

/-- A host register write (10_state.md R40, R49). -/
def writeReg (r : Nat) (v : Word) (s : State) : Result :=
  runStages ((writeStages r).map fun st => (st, Carrier.regWrite r v)) s

/-- One host interaction as one atomic transition (44_run_control.md R230, 20_memory.md R64). -/
def perform (a : HostAccess) (s : State) : Result :=
  match a with
  | .write r v => writeReg r v s
  | .read r => .next (s.answer (.word (s.readReg r)))
  | .readEvents => .next (s.answer (.events s.eventsSeen))
  | .blockReset => .next s.blockReset

/-- Host interactions performed one after the other (70_reset_and_hazards.md R286). -/
def performAll : List HostAccess → State → Result
  | [], s => .next s
  | a :: rest, s => andThen (perform a s) (performAll rest)

/-- The host sequence of `Decode(cfg, bytes)` (44_run_control.md R234, 70_reset_and_hazards.md R282). -/
def decodeScript (c : RunConfig) (bytes : List Byte) : List HostAccess :=
  [.blockReset, .write regChanMap c.chanMap, .write regCtrl c.ctrl, .write regLimitLo c.limitLo,
   .write regLimitHi c.limitHi, .write regCmd 1#32] ++
  bytes.map (fun b => .write regByteIn (b.setWidth 32)) ++ [.write regCmd 2#32]

/-- `Decode(cfg, bytes)` from any state of the block (44_run_control.md R234). -/
def decodeRun (c : RunConfig) (bytes : List Byte) (s : State) : Result := performAll (decodeScript c bytes) s

/-- The machine a word of opcode_table.json needs so that the operation its word names is the one
selected next (log entries 2 and 8): the configuration of a block reset, latched by a Start. -/
def State.freshRun (s : State) : State :=
  { s.initRun with cfg := RunConfig.atReset, cfgRun := RunConfig.atReset, run := .running }

/-- The state in which the next host interaction selects operation `i`. -/
def State.readyFor (i : Instr) (s : State) : State :=
  match i with
  | .start => if s.isRunning || !legalMap s.cfg.chanMap then { s with run := .idle, cfg := RunConfig.atReset } else s
  | .latchDecode _ => { s.freshRun with pastReset := true, pendingRiseIndex := some 0#64, idx := 2#64 }
  | .latchReject _ => { s.freshRun with pastReset := true, pendingRiseIndex := some 0#64, idx := 2#64 }
  | .limitStop =>
    { s.freshRun with cfg := { RunConfig.atReset with ctrl := 3#32, limitLo := 1#32 },
                      cfgRun := { RunConfig.atReset with ctrl := 3#32, limitLo := 1#32 } }
  | _ => s.freshRun

/-- A sample about to be presented: its low byte held and its high byte the next host interaction. -/
def State.presenting (s : State) (smp : Sample) : State :=
  { s with heldByte := some (smp.extractLsb' 0 8),
           host := .write regByteIn ((smp.extractLsb' 8 8).setWidth 32) :: s.host }

end Sys2Proof.Machine
end

