-- ==== Sys2Proof/Machine/Step.lean ====
section
/-! DEFINITION. One step of the machine: the next host interaction (44_run_control.md R230). -/

namespace Sys2Proof.Machine

/-- Take the next host interaction and perform it. With none, nothing changes: the block has no clock of its own and
between interactions changes no state (60_exceptions.md R264, 92_eei_decisions.md D1). -/
def step (s : State) : Host.Outcome State Fault Refusal :=
  match s.host with
  | [] => .next s
  | a :: rest => perform a { s with host := rest }

/-- `s` with the operation that `decodeTableWord nbits w` names made the next one: a CMD value or a byte as a register
write, a sample (and the sample after which the limit stops) as the second of its two BYTE_IN writes, in a run where the
operation's condition holds (log entries 2 and 8). -/
def State.withFetchWord (s : State) (nbits w : Nat) : State :=
  match decodeTableWord nbits w with
  | none => s
  | some i =>
    if nbits ≤ 16 then (s.readyFor i).presenting (BitVec.ofNat 16 w)
    else if (BitVec.ofNat 32 w).getLsbD 0 || (BitVec.ofNat 32 w).getLsbD 1 then
      { s.readyFor i with host := .write regCmd (BitVec.ofNat 32 w) :: s.host }
    else { s.readyFor i with host := .write regByteIn (BitVec.ofNat 32 w) :: s.host }

end Sys2Proof.Machine
end

