-- ==== Sys2Proof/Safety.lean ====
section
/-! DEFINITION. What counts as a safe state of the block: the invariants of 10_state.md R54 and of the rules they come
from, in the terms the statements use. Before the first Start the decoder state is unspecified (10_state.md R52), so
the clauses about it speak of started blocks only. -/

namespace Sys2Proof.Machine

/-- The position of an event among the events of one sample (44_run_control.md R211). -/
def eventRank : Event → Nat
  | .resetObserved _ => 0
  | .addressDecoded _ _ => 1
  | .clockEdge _ => 2

/-- Sample order, and within one sample the order of 44_run_control.md R211, as one number. -/
def eventKey (e : Event) : Nat := 3 * (eventIndex e).toNat + eventRank e

/-- No AddressDecoded before a ResetObserved (41_reset_tracker.md R143). -/
def addressesAfterReset : List Event → Bool
  | [] => true
  | .resetObserved _ :: _ => true
  | .addressDecoded _ _ :: _ => false
  | .clockEdge _ :: es => addressesAfterReset es

/-- Whether an event is a ResetObserved. -/
def isResetObserved : Event → Bool
  | .resetObserved _ => true
  | .addressDecoded _ _ => false
  | .clockEdge _ => false

/-- The samples the run may process: LIMIT when it is enabled, else `2^64 - 1` (44_run_control.md R220, R221). -/
def State.sampleBound (s : State) : Nat :=
  match s.cfgRun.sampleLimit with
  | some n => n.toNat
  | none => maxSamples

/-- Reserved bits of CHANMAP and CTRL hold 0 (10_state.md R41, R42). -/
abbrev State.ReservedClear (s : State) : Prop :=
  s.cfg.chanMap.extractLsb' 24 8 = 0#8 ∧ s.cfg.ctrl.extractLsb' 3 29 = 0#29

/-- A run in progress: its map is legal, its configuration is the host's, and it has not reached its bound
(10_state.md R44, 44_run_control.md R215, R220, R221). -/
abbrev State.RunOk (s : State) : Prop :=
  s.run = .running → legalMap s.cfgRun.chanMap = true ∧ s.cfgRun = s.cfg ∧ s.idx.toNat < s.sampleBound

/-- Error code and completion flags agree with the run status (10_state.md R38). -/
abbrev State.StatusOk (s : State) : Prop :=
  (s.err = .none ↔ s.run ≠ .error) ∧
  (s.empty = true → s.run = .done ∧ s.idx = 0#64 ∧ s.events = [] ∧ s.limitReached = false) ∧
  (s.limitReached = true → s.run = .done ∧ s.idx.toNat = s.sampleBound)

/-- The decoder state of a started block (10_state.md R54 and R36, R37). -/
abbrev State.TrackOk (s : State) : Prop :=
  s.run ≠ .idle →
    (s.pendingRiseIndex.all fun n => decide (n.toNat < s.idx.toNat)) = true ∧
    (s.idx = 0#64 → s.pastReset = false ∧ s.prevClockHigh = false) ∧
    (s.run ≠ .running → s.heldByte = none)

/-- The events of a started block: of samples already processed, in order, ResetObserved exactly when reset has been
seen and at most once, and no address before it (10_state.md R45, 41_reset_tracker.md R140, R143, 44_run_control.md
R211). -/
abbrev State.EventsOk (s : State) : Prop :=
  s.run ≠ .idle →
    (∀ e ∈ s.events, (eventIndex e).toNat < s.idx.toNat) ∧
    s.events.Pairwise (fun a b => eventKey a < eventKey b) ∧
    s.events.countP isResetObserved = s.pastReset.toNat ∧
    addressesAfterReset s.events = true

/-- The invariant every step keeps. -/
abbrev State.Inv (s : State) : Prop := s.ReservedClear ∧ s.RunOk ∧ s.StatusOk ∧ s.TrackOk ∧ s.EventsOk

/-- The two states hold the same block: every field of 10_state.md R31 but `cfgRun`, which a failed Start leaves
unspecified. -/
abbrev State.SameBlock (s t : State) : Prop :=
  s.pastReset = t.pastReset ∧ s.prevClockHigh = t.prevClockHigh ∧ s.pendingRiseIndex = t.pendingRiseIndex ∧
  s.idx = t.idx ∧ s.heldByte = t.heldByte ∧ s.run = t.run ∧ s.err = t.err ∧ s.empty = t.empty ∧
  s.limitReached = t.limitReached ∧ s.cfg = t.cfg ∧ s.events = t.events

/-- Nothing of the block changes (every field of 10_state.md R31). -/
abbrev State.BlockUnchanged (s t : State) : Prop := State.SameBlock s t ∧ s.cfgRun = t.cfgRun

/-- The model's own fields do not change. -/
abbrev State.PortUnchanged (s t : State) : Prop := s.host = t.host ∧ s.reply = t.reply ∧ s.draws = t.draws

end Sys2Proof.Machine
end

