-- ==== Sys2Proof/Certificates/Slice0/Obligations.lean ====
section
/-! DEFINITION. The statements for the provers. Each names the rules of spec/ it formalises. -/

open Sys2Proof Sys2Proof.Machine

/-! ## Encoding and selection -/

/-- A few carriers written out from opcode_table.json and 10_state.md R49 select the operations they stand for. -/
def Obligations.WrittenWordsSelectTheirOperations : Prop :=
  decode .byteIn (.regWrite 10 0xFFFFFF34#32) View.probe = .op (.byteLow 0x34#8) ∧
  decode .byteIn (.regWrite 10 0x00000012#32) { View.probe with held := true } = .op (.byteHigh 0x12#8) ∧
  decode .reset (.sample 0x0001#16) View.probe = .op (.resetDetect 0x0001#16) ∧
  decode .latch (.sample 0xABCA#16) View.probe = .op (.latchDecode 0xABCA#16) ∧
  decode .edge (.sample 0x0002#16) View.probe = .op (.edgeRise 0x0002#16) ∧
  decode .endOfStream (.regWrite 9 0x00000002#32) View.probe = .op .endOfStreamEmpty ∧
  decode .start (.regWrite 9 0x00000001#32) { View.probe with running := false } = .op .start ∧
  decode .config (.regWrite 1 0x00000002#32) { View.probe with running := false } = .op (.configWrite 1 0x2#32)

/-- Every well-formed operation is selected from its own encoding, with every operand, in every decoder state in which
its row of opcode_table.json is taken. -/
def Obligations.DecodeOfEncodeIsTheOperation : Prop :=
  ∀ (i : Instr) (c : View), i.wellFormed = true → taken c i = true →
    decode (encode i).1 (encode i).2 c = .op i

/-- What the decoder selects is a well-formed operation whose row is taken, at that row's stage, and is selected from
its own encoding too. -/
def Obligations.SelectedOperationsAreTaken : Prop :=
  ∀ (st : Stage) (w : Carrier) (c : View) (i : Instr), decode st w c = .op i →
    i.wellFormed = true ∧ taken c i = true ∧ (encode i).1 = st ∧ decode st (encode i).2 c = .op i

/-- 30_encoding.md R94: of the rows of the reset tracker exactly one is taken for a sample, and likewise of the latch
rows and of the edge rows, whatever the channel map and the decoder state. -/
def Obligations.ExactlyOneRowPerTracker : Prop :=
  ∀ (c : View) (smp : Sample),
    (taken c (.resetDetect smp) = !taken c (.resetHold smp)) ∧
    ([taken c (.latchDecode smp), taken c (.latchReject smp), taken c (.latchIdle smp)].count true = 1) ∧
    (taken c (.edgeRise smp) = !taken c (.edgeNone smp)) ∧
    taken c (.clockUpdate smp) = true ∧ taken c .indexAdvance = true

/-- 30_encoding.md R83: the three conditions of a legal channel map, for any positions of its six fields; hence
`POS_ADDR_LOW ≤ 4`; and with any other map a Start fails with CHANNEL_MAP. -/
def Obligations.LegalMapIsTheThreeConditions : Prop :=
  (∀ m : Word, legalMap m = true ↔
    posAddrHigh m = posAddrLow m + 11 ∧
    [posReset m, posClock m, posCs1 m, posCs2 m].Nodup ∧
    ∀ p ∈ [posReset m, posClock m, posCs1 m, posCs2 m], p < posAddrLow m ∨ posAddrHigh m < p) ∧
  (∀ m : Word, legalMap m = true → posAddrLow m ≤ 4) ∧
  ∀ s : State, s.run ≠ .running → legalMap s.cfg.chanMap = false →
    decode .start (.regWrite 9 1#32) s.view = .op .startBadMap ∧
    ∃ t, exec .startBadMap s = .next t ∧ t.run = .error ∧ t.err = .channelMap

/-- 30_encoding.md R84: a legal map places the 16 logical channels on the 16 bits one to one, there are exactly 120
legal maps among the register values whose reserved bits are 0, and `0x00B0CDEF` is one of them with the positions R84 gives. -/
def Obligations.LegalMapsAreOneToOneAndOneHundredTwenty : Prop :=
  (∀ m : Word, legalMap m = true →
    ([posReset m, posClock m, posCs1 m, posCs2 m] ++
      (List.range 12).map (posAddrLow m + ·)).Perm (List.range 16)) ∧
  (∃ l : List Word, l.length = 120 ∧ l.Nodup ∧
    ∀ m : Word, m ∈ l ↔ m.extractLsb' 24 8 = 0#8 ∧ legalMap m = true) ∧
  (legalMap 0x00B0CDEF#32 = true ∧ posAddrLow 0x00B0CDEF#32 = 0 ∧ posAddrHigh 0x00B0CDEF#32 = 11 ∧
    posCs2 0x00B0CDEF#32 = 12 ∧ posCs1 0x00B0CDEF#32 = 13 ∧ posClock 0x00B0CDEF#32 = 14 ∧
    posReset 0x00B0CDEF#32 = 15)

/-- 43_address_latch.md R183: channel A`k` of the address is the bit `POS_ADDR_LOW + k` of the sample, for every legal
map, up to A11 at POS_ADDR_HIGH; under the default map the address is the sample shifted right by 4. -/
def Obligations.AddressBitsComeFromTheAddressChannels : Prop :=
  (∀ (m : Word) (smp : Sample), legalMap m = true →
    posAddrLow m + 11 = posAddrHigh m ∧
    ∀ k, k < 12 → (addrField m smp).getLsbD k = smp.getLsbD (posAddrLow m + k)) ∧
  ∀ smp : Sample, (addrField defaultChanMap smp).toNat = smp.toNat >>> 4

/-- 30_encoding.md R90: the four fields of the record of every event, KIND never `00`; so different events have
different records. -/
def Obligations.EventRecordsCarryTheirFields : Prop :=
  (∀ (i : Index) (a : Addr),
    (eventRecord (.addressDecoded i a)).extractLsb' 78 2 = 0b10#2 ∧
    (eventRecord (.addressDecoded i a)).extractLsb' 76 2 = 0#2 ∧
    (eventRecord (.addressDecoded i a)).extractLsb' 12 64 = i ∧
    (eventRecord (.addressDecoded i a)).extractLsb' 0 12 = a) ∧
  (∀ i : Index,
    (eventRecord (.resetObserved i)).extractLsb' 78 2 = 0b01#2 ∧
    (eventRecord (.resetObserved i)).extractLsb' 76 2 = 0#2 ∧
    (eventRecord (.resetObserved i)).extractLsb' 12 64 = i ∧
    (eventRecord (.resetObserved i)).extractLsb' 0 12 = 0#12) ∧
  (∀ i : Index,
    (eventRecord (.clockEdge i)).extractLsb' 78 2 = 0b11#2 ∧
    (eventRecord (.clockEdge i)).extractLsb' 76 2 = 0#2 ∧
    (eventRecord (.clockEdge i)).extractLsb' 12 64 = i ∧
    (eventRecord (.clockEdge i)).extractLsb' 0 12 = 0#12) ∧
  (∀ e : Event, (eventRecord e).extractLsb' 78 2 ≠ 0b00#2) ∧
  ∀ e f : Event, eventRecord e = eventRecord f → e = f

/-- 30_encoding.md R91: the three lines; the index is decimal without leading zeros (`0` for zero), the address exactly
three uppercase hexadecimal digits, most significant first. -/
def Obligations.LogLinesAreTheirEvents : Prop :=
  (∀ i : Index, logLine (.resetObserved i) = ['R', 'S', 'T', ':', ' '] ++ decimalIndex i ++ ['\n']) ∧
  (∀ i : Index,
    logLine (.clockEdge i) = ['P', 'h', 'i', '2', ' ', 'E', 'd', 'g', 'e', ':', ' '] ++ decimalIndex i ++ ['\n']) ∧
  (∀ (i : Index) (a : Addr), ∃ x y z : Fin 16, a.toNat = 256 * x.val + 16 * y.val + z.val ∧
    logLine (.addressDecoded i a) =
      ['F'] ++ [x, y, z].map (fun d => ['0', '1', '2', '3', '4', '5', '6', '7', '8', '9', 'A', 'B', 'C', 'D', 'E',
        'F'].getD d.val ' ') ++ ['\n']) ∧
  ∀ i : Index,
    (decimalIndex i).foldl (fun n ch => 10 * n + (ch.toNat - 48)) 0 = i.toNat ∧
    (∀ ch ∈ decimalIndex i, 48 ≤ ch.toNat ∧ ch.toNat ≤ 57) ∧
    decimalIndex i ≠ [] ∧ ((decimalIndex i).head? = some '0' → decimalIndex i = ['0'])

/-- 30_encoding.md R92: the address line is `F` and three hexadecimal digits, carries no sample index, and tells every
address from every other. -/
def Obligations.AddressLineIsLossyInTheIndexOnly : Prop :=
  ∀ (i j : Index) (a b : Addr),
    (logLine (.addressDecoded i a)).length = 5 ∧
    (logLine (.addressDecoded i a) = logLine (.addressDecoded j b) ↔ a = b)

/-! ## Results of the operations -/

/-- 41_reset_tracker.md R140: RESET_DETECT. -/
def Obligations.ResetDetectResult : Prop :=
  ∀ (s : State) (smp : Sample), resetBit s.cfgRun.chanMap smp = true → s.pastReset = false →
    exec (.resetDetect smp) s =
      .next { s with pastReset := true, events := s.events ++ [.resetObserved s.idx] }

/-- 41_reset_tracker.md R141, 43_address_latch.md R185, 42_clock_edge_detector.md R163: RESET_HOLD, LATCH_IDLE and
EDGE_NONE change nothing where their rows are taken. -/
def Obligations.SkippingRowsChangeNothing : Prop :=
  ∀ (s : State) (smp : Sample),
    (resetBit s.cfgRun.chanMap smp = false ∨ s.pastReset = true → exec (.resetHold smp) s = .next s) ∧
    ((s.pastReset = false ∨ ∀ n, s.pendingRiseIndex = some n → s.idx.toNat ≠ n.toNat + 2) →
      exec (.latchIdle smp) s = .next s) ∧
    (clockBit s.cfgRun.chanMap smp = false ∨ s.prevClockHigh = true → exec (.edgeNone smp) s = .next s)

/-- 43_address_latch.md R182: LATCH_DECODE. -/
def Obligations.LatchDecodeResult : Prop :=
  ∀ (s : State) (smp : Sample) (n : Index), s.pastReset = true → s.pendingRiseIndex = some n →
    s.idx.toNat = n.toNat + 2 → cs1Bit s.cfgRun.chanMap smp = false → cs2Bit s.cfgRun.chanMap smp = true →
    exec (.latchDecode smp) s =
      .next { s with pendingRiseIndex := none,
                     events := s.events ++ [.addressDecoded s.idx (addrField s.cfgRun.chanMap smp)] }

/-- 43_address_latch.md R184: LATCH_REJECT. -/
def Obligations.LatchRejectResult : Prop :=
  ∀ (s : State) (smp : Sample) (n : Index), s.pastReset = true → s.pendingRiseIndex = some n →
    s.idx.toNat = n.toNat + 2 → cs1Bit s.cfgRun.chanMap smp = true ∨ cs2Bit s.cfgRun.chanMap smp = false →
    exec (.latchReject smp) s = .next { s with pendingRiseIndex := none }

/-- 42_clock_edge_detector.md R160 with the ClockEdgeEvent of R162: EDGE_RISE. -/
def Obligations.EdgeRiseResult : Prop :=
  ∀ (s : State) (smp : Sample), clockBit s.cfgRun.chanMap smp = true → s.prevClockHigh = false →
    exec (.edgeRise smp) s =
      .next { s with
        pendingRiseIndex := some s.idx,
        events := s.events ++
          if s.cfgRun.ctrl.getLsbD 0 = true ∧ (s.cfgRun.ctrl.getLsbD 2 = false ∨ s.pastReset = true) then
            [.clockEdge s.idx]
          else [] }

/-- 42_clock_edge_detector.md R161: CLOCK_UPDATE. -/
def Obligations.ClockUpdateResult : Prop :=
  ∀ (s : State) (smp : Sample),
    exec (.clockUpdate smp) s = .next { s with prevClockHigh := smp.getLsbD (posClock s.cfgRun.chanMap) }

/-- 44_run_control.md R213: INDEX_ADVANCE counts by one and never wraps. -/
def Obligations.IndexAdvanceResult : Prop :=
  ∀ s : State, s.idx.toNat < 2 ^ 64 - 1 →
    ∃ t, exec .indexAdvance s = .next t ∧ t.idx.toNat = s.idx.toNat + 1 ∧ t = { s with idx := t.idx }

/-- INDEX_ADVANCE stops, by the fault of log entry 6, exactly where no 64-bit index follows: the model's choice for a
state that 44_run_control.md R221 keeps every run from. -/
def Obligations.IndexAdvanceStopsOnlyAtTheLastIndex : Prop :=
  ∀ s : State, exec .indexAdvance s = .fault .indexOverflow ↔ s.idx.toNat = 2 ^ 64 - 1

/-- 44_run_control.md R220: LIMIT_STOP. -/
def Obligations.LimitStopResult : Prop :=
  ∀ s : State, s.cfgRun.ctrl.getLsbD 1 = true →
    s.cfgRun.limitHi.toNat * 2 ^ 32 + s.cfgRun.limitLo.toNat ≤ s.idx.toNat →
    exec .limitStop s = .next { s with run := .done, limitReached := true }

/-- 44_run_control.md R221: INDEX_EXHAUST, where no sample limit stopped the run first. -/
def Obligations.IndexExhaustResult : Prop :=
  ∀ s : State, s.idx.toNat = 2 ^ 64 - 1 → s.cfgRun.ctrl.getLsbD 1 = false →
    exec .indexExhaust s = .next { s with run := .done, limitReached := true }

/-- 40_sample_source.md R120: BYTE_LOW. -/
def Obligations.ByteLowResult : Prop :=
  ∀ (s : State) (b : Byte), s.run = .running → s.heldByte = none →
    exec (.byteLow b) s = .next { s with heldByte := some b }

/-- 40_sample_source.md R121: BYTE_HIGH takes the held byte and processes the sample `lo | (b << 8)`, and completes
below the last index. -/
def Obligations.ByteHighProcessesTheAssembledSample : Prop :=
  ∀ (s : State) (b lo : Byte), s.run = .running → s.heldByte = some lo → s.idx.toNat < 2 ^ 64 - 1 →
    ∃ t, exec (.byteHigh b) s = .next t ∧
      exec (.sampleStep ((b.setWidth 16 <<< 8) ||| lo.setWidth 16)) { s with heldByte := none } = .next t ∧
      t.heldByte = none

/-- 44_run_control.md R210: SAMPLE_STEP, every field of the state it leaves. -/
def Obligations.SampleStepResult : Prop :=
  ∀ (s : State) (smp : Sample), s.run = .running → s.idx.toNat < 2 ^ 64 - 1 →
    let m := s.cfgRun.chanMap
    let past := s.pastReset || resetBit m smp
    let window := past && s.pendingRiseIndex.any fun n => decide (s.idx.toNat = n.toNat + 2)
    let rise := clockBit m smp && !s.prevClockHigh
    let stop := (s.cfgRun.sampleLimit.any fun n => decide (n.toNat ≤ s.idx.toNat + 1)) ||
      decide (s.idx.toNat + 1 = 2 ^ 64 - 1)
    exec (.sampleStep smp) s =
      .next { s with
        pastReset := past,
        prevClockHigh := clockBit m smp,
        pendingRiseIndex := if rise then some s.idx else if window then none else s.pendingRiseIndex,
        idx := BitVec.ofNat 64 (s.idx.toNat + 1),
        events := s.events ++
          (if resetBit m smp && !s.pastReset then [.resetObserved s.idx] else []) ++
          (if window && (!cs1Bit m smp && cs2Bit m smp) then [.addressDecoded s.idx (addrField m smp)] else []) ++
          (if rise && (s.cfgRun.ctrl.getLsbD 0 && (!s.cfgRun.ctrl.getLsbD 2 || past)) then
            [.clockEdge s.idx] else []),
        run := if stop then .done else .running,
        limitReached := s.limitReached || stop }

/-- 30_encoding.md R94, 44_run_control.md R211: SAMPLE_STEP is its sub-operations, each selected by the sample and the
state the earlier ones left, in the order reset, latch, edge, clock, index, stop checks. -/
def Obligations.SampleStepRunsItsSelectedSubOperations : Prop :=
  ∀ (s : State) (smp : Sample), s.run = .running →
    exec (.sampleStep smp) s = runStages (sampleStages smp) s

/-- 44_run_control.md R215, R216: Start outside a run, with a legal map and its end at once under a limit of 0, or with
an illegal one; and nothing during a run. -/
def Obligations.StartResult : Prop :=
  ∀ s : State,
    (s.run ≠ .running → legalMap s.cfg.chanMap = true →
      exec .start s =
        .next { s with
          pastReset := false, prevClockHigh := false, pendingRiseIndex := none, idx := 0#64, heldByte := none,
          events := [], err := .none, empty := false, cfgRun := s.cfg,
          run := if s.cfg.sampleLimit = some 0#64 then .done else .running,
          limitReached := decide (s.cfg.sampleLimit = some 0#64) }) ∧
    (s.run ≠ .running → legalMap s.cfg.chanMap = false →
      exec .startBadMap s =
        .next { s with
          pastReset := false, prevClockHigh := false, pendingRiseIndex := none, idx := 0#64, heldByte := none,
          events := [], empty := false, limitReached := false, run := .error, err := .channelMap }) ∧
    (s.run = .running → exec .start s = .next s ∧ exec .startBadMap s = .next s)

/-- 60_exceptions.md R252: what a Start with an illegal map records, as the host reads it: STATUS ERROR with
CHANNEL_MAP, COUNT 0, no event, and CHANMAP read back as it was. -/
def Obligations.BadMapStartRecords : Prop :=
  ∀ (s : State) (v : Word) (rest : List HostAccess), s.run ≠ .running → legalMap s.cfg.chanMap = false →
    v.getLsbD 0 = true → s.host = .write 9 v :: rest →
    ∃ t, step s = .next t ∧ t.readReg 4 = 0x0000000B#32 ∧ t.readReg 5 = 0#32 ∧ t.readReg 6 = 0#32 ∧
      t.eventsSeen = [] ∧ t.readReg 0 = s.cfg.chanMap

/-- 40_sample_source.md R122, 60_exceptions.md R254: END_OF_STREAM_TRUNCATED ends the run in ERROR and drops the odd
byte; the decoder state and the events stay. -/
def Obligations.EndOfStreamTruncatedResult : Prop :=
  ∀ (s : State) (lo : Byte), s.run = .running → s.heldByte = some lo →
    exec .endOfStreamTruncated s = .next { s with heldByte := none, run := .error, err := .truncatedStream }

/-- 44_run_control.md R218: END_OF_STREAM_EMPTY. -/
def Obligations.EndOfStreamEmptyResult : Prop :=
  ∀ s : State, s.run = .running → s.heldByte = none → s.idx = 0#64 →
    exec .endOfStreamEmpty s = .next { s with run := .done, empty := true }

/-- 44_run_control.md R219: END_OF_STREAM_OK. That it writes EMPTY and LIMIT_REACHED to 0 whatever they were is the
model's reading of `Finish()` (log entry 14). -/
def Obligations.EndOfStreamOkResult : Prop :=
  ∀ s : State, s.run = .running → s.heldByte = none → 0 < s.idx.toNat →
    exec .endOfStreamOk s = .next { s with run := .done, empty := false, limitReached := false }

/-- 44_run_control.md R222, R231: CONFIG_WRITE outside a run writes the one register named, reserved bits being 0
(10_state.md R41 to R43); during a run it is ignored. -/
def Obligations.ConfigWriteResult : Prop :=
  ∀ (s : State) (v : Word),
    (s.run ≠ .running →
      exec (.configWrite 0 v) s =
        .next { s with cfg := { s.cfg with chanMap := (v.extractLsb' 0 24).setWidth 32 } } ∧
      exec (.configWrite 1 v) s = .next { s with cfg := { s.cfg with ctrl := (v.extractLsb' 0 3).setWidth 32 } } ∧
      exec (.configWrite 2 v) s = .next { s with cfg := { s.cfg with limitLo := v } } ∧
      exec (.configWrite 3 v) s = .next { s with cfg := { s.cfg with limitHi := v } }) ∧
    (s.run = .running → ∀ r, exec (.configWrite r v) s = .next s)

/-- An operation whose row is not taken leaves the state as it was: the model's reading of the rows' conditions (log
entry 5). -/
def Obligations.UntakenOperationsChangeNothing : Prop :=
  ∀ (i : Instr) (s : State), taken s.view i = false → exec i s = .next s

/-! ## Frames: what an operation leaves unchanged -/

/-- Frame of the sub-operations of the reset tracker, the address latch and the clock edge detector: each writes only
what its rule names, and events are only appended. -/
def Obligations.TrackerFrame : Prop :=
  ∀ (s t : State) (smp : Sample) (i : Instr),
    i ∈ [.resetDetect smp, .resetHold smp, .latchDecode smp, .latchReject smp, .latchIdle smp, .edgeRise smp,
      .edgeNone smp, .clockUpdate smp] → exec i s = .next t →
    t.idx = s.idx ∧ t.heldByte = s.heldByte ∧ t.run = s.run ∧ t.err = s.err ∧ t.empty = s.empty ∧
    t.limitReached = s.limitReached ∧ t.cfg = s.cfg ∧ t.cfgRun = s.cfgRun ∧ State.PortUnchanged s t ∧
    (i ≠ .resetDetect smp → t.pastReset = s.pastReset) ∧
    (i ≠ .clockUpdate smp → t.prevClockHigh = s.prevClockHigh) ∧
    (i ∉ [.latchDecode smp, .latchReject smp, .edgeRise smp] → t.pendingRiseIndex = s.pendingRiseIndex) ∧
    (i ∉ [.resetDetect smp, .latchDecode smp, .edgeRise smp] → t.events = s.events) ∧
    s.events <+: t.events

/-- Frame of INDEX_ADVANCE, LIMIT_STOP and INDEX_EXHAUST. -/
def Obligations.IndexAndStopFrame : Prop :=
  ∀ (s t : State) (i : Instr), i ∈ [.indexAdvance, .limitStop, .indexExhaust] → exec i s = .next t →
    t.pastReset = s.pastReset ∧ t.prevClockHigh = s.prevClockHigh ∧ t.pendingRiseIndex = s.pendingRiseIndex ∧
    t.heldByte = s.heldByte ∧ t.err = s.err ∧ t.empty = s.empty ∧ t.cfg = s.cfg ∧ t.cfgRun = s.cfgRun ∧
    t.events = s.events ∧ State.PortUnchanged s t ∧
    (i ≠ .indexAdvance → t.idx = s.idx) ∧
    (i = .indexAdvance → t.run = s.run ∧ t.limitReached = s.limitReached)

/-- Frame of BYTE_LOW, BYTE_HIGH and SAMPLE_STEP: the configuration, the error code and the EMPTY flag stay, events are
only appended, BYTE_LOW writes the held byte alone and SAMPLE_STEP leaves it. -/
def Obligations.ByteAndSampleFrame : Prop :=
  ∀ (s t : State) (b : Byte) (smp : Sample) (i : Instr), i ∈ [.byteLow b, .byteHigh b, .sampleStep smp] →
    exec i s = .next t →
    t.cfg = s.cfg ∧ t.cfgRun = s.cfgRun ∧ t.err = s.err ∧ t.empty = s.empty ∧ State.PortUnchanged s t ∧
    s.events <+: t.events ∧ t.events.length ≤ s.events.length + 3 ∧
    (i = .sampleStep smp → t.heldByte = s.heldByte) ∧
    (i = .byteLow b → t = { s with heldByte := t.heldByte })

/-- Frame of START and START_BAD_MAP: the configuration registers stay; START_BAD_MAP leaves `cfgRun`. -/
def Obligations.StartFrame : Prop :=
  ∀ (s t : State) (i : Instr), i ∈ [.start, .startBadMap] → exec i s = .next t →
    t.cfg = s.cfg ∧ State.PortUnchanged s t ∧ (i = .startBadMap → t.cfgRun = s.cfgRun)

/-- Frame of the END_OF_STREAM operations: the decoder state, the configuration and the events stay, and each writes
only the status fields its rule names. -/
def Obligations.EndOfStreamFrame : Prop :=
  ∀ (s t : State) (i : Instr), i ∈ [.endOfStreamTruncated, .endOfStreamEmpty, .endOfStreamOk] →
    exec i s = .next t →
    t.pastReset = s.pastReset ∧ t.prevClockHigh = s.prevClockHigh ∧ t.pendingRiseIndex = s.pendingRiseIndex ∧
    t.idx = s.idx ∧ t.cfg = s.cfg ∧ t.cfgRun = s.cfgRun ∧ t.events = s.events ∧ State.PortUnchanged s t ∧
    (i ≠ .endOfStreamTruncated → t.heldByte = s.heldByte ∧ t.err = s.err) ∧
    (i = .endOfStreamTruncated → t.empty = s.empty ∧ t.limitReached = s.limitReached) ∧
    (i = .endOfStreamEmpty → t.limitReached = s.limitReached)

/-- Frame of CONFIG_WRITE: nothing but the register it names, and during a run nothing at all. -/
def Obligations.ConfigWriteFrame : Prop :=
  ∀ (s t : State) (r : Nat) (v : Word), exec (.configWrite r v) s = .next t →
    t = { s with cfg := t.cfg } ∧
    (r ≠ 0 → t.cfg.chanMap = s.cfg.chanMap) ∧ (r ≠ 1 → t.cfg.ctrl = s.cfg.ctrl) ∧
    (r ≠ 2 → t.cfg.limitLo = s.cfg.limitLo) ∧ (r ≠ 3 → t.cfg.limitHi = s.cfg.limitHi) ∧
    (s.run = .running → t = s)

/-! ## Steps: the host's interactions -/

/-- A step whose next host interaction is a register write that selects one operation runs exactly that operation, on
the state without the interaction (40_sample_source.md R120, R121, 44_run_control.md R222; CMD is the next statement). -/
def Obligations.StepRunsTheSelectedOperation : Prop :=
  ∀ (s : State) (r : Nat) (v : Word) (rest : List HostAccess) (st : Stage) (i : Instr),
    s.host = .write r v :: rest → writeStages r = [st] → decode st (.regWrite r v) s.view = .op i →
    step s = exec i { s with host := rest }

/-- 10_state.md R49: a CMD write performs EndOfStream first, when bit 1 is set, and Start second, when bit 0 is set,
each as the operation selected in the state it finds (none where it is ignored); other bits are ignored. -/
def Obligations.CmdRunsEndOfStreamThenStart : Prop :=
  ∀ (s : State) (v : Word) (rest : List HostAccess), s.host = .write 9 v :: rest →
    ∃ u, runStage .endOfStream (.regWrite 9 (v &&& 0x00000002#32)) { s with host := rest } = .next u ∧
      (v.getLsbD 1 = false → u = { s with host := rest }) ∧
      step s = runStage .start (.regWrite 9 (v &&& 0x00000001#32)) u ∧
      (v.getLsbD 0 = false → step s = .next u)

/-- A sample presented as its two BYTE_IN writes is one SAMPLE_STEP, in two steps, and leaves no byte held
(40_sample_source.md R124). -/
def Obligations.TwoBytesPresentOneSample : Prop :=
  ∀ (s : State) (smp : Sample) (v w : Word) (rest : List HostAccess),
    s.run = .running → s.heldByte = none → s.idx.toNat < 2 ^ 64 - 1 →
    v.extractLsb' 0 8 = smp.extractLsb' 0 8 → w.extractLsb' 0 8 = smp.extractLsb' 8 8 →
    s.host = .write 10 v :: .write 10 w :: rest →
    ∃ u t, step s = .next u ∧ step u = .next t ∧ exec (.sampleStep smp) { s with host := rest } = .next t ∧
      t.heldByte = none

/-- Host writes that have no effect: a byte outside a run (44_run_control.md R233), a configuration write or a Start
during one (R231, R216), an EndOfStream outside one (R217), a write to a read-only register or to a register number
above 10 (10_state.md R40). -/
def Obligations.IgnoredWritesChangeNothing : Prop :=
  ∀ (s : State) (r : Nat) (v : Word) (rest : List HostAccess), s.host = .write r v :: rest →
    (r = 10 ∧ s.run ≠ .running) ∨ (r ≤ 3 ∧ s.run = .running) ∨ (4 ≤ r ∧ r ≤ 8) ∨ 11 ≤ r ∨
      (r = 9 ∧ s.run = .running ∧ v.getLsbD 1 = false) ∨ (r = 9 ∧ s.run ≠ .running ∧ v.getLsbD 0 = false) →
    step s = .next { s with host := rest }

/-- 20_memory.md R64, 44_run_control.md R230: host reads change nothing of the block, and a read of the event stream of a
started block answers its events (10_state.md R45, 20_memory.md R68). The model's own part: the answer stands in the
field `reply` (log entry 9), and a step with no host interaction changes nothing, during a run too (log entry 1). -/
def Obligations.ReadsAndIdlingChangeNothing : Prop :=
  ∀ (s : State) (rest : List HostAccess),
    (∀ r, s.host = .read r :: rest → step s = .next { s with host := rest, reply := .word (s.readReg r) }) ∧
    (s.host = .readEvents :: rest → step s = .next { s with host := rest, reply := .events s.eventsSeen }) ∧
    (s.run ≠ .idle → s.eventsSeen = s.events) ∧
    (s.host = [] → step s = .next s)

/-- 10_state.md R46: every field of STATUS once a run has been started; before, its bits 9:4 read 0, and it reads 0
where no error is recorded, as after a block reset. -/
def Obligations.StatusFields : Prop :=
  ∀ s : State,
    (s.readReg 4).extractLsb' 0 2 =
      (match s.run with | .idle => 0b00#2 | .running => 0b01#2 | .done => 0b10#2 | .error => 0b11#2) ∧
    (s.readReg 4).extractLsb' 2 2 =
      (match s.err with | .none => 0b00#2 | .truncatedStream => 0b01#2 | .channelMap => 0b10#2) ∧
    (s.readReg 4).extractLsb' 10 22 = 0#22 ∧
    (s.run = .idle → (s.readReg 4).extractLsb' 4 6 = 0#6 ∧ (s.err = .none → s.readReg 4 = 0x00000000#32)) ∧
    (s.run ≠ .idle →
      (s.readReg 4).getLsbD 4 = s.empty ∧ (s.readReg 4).getLsbD 5 = s.limitReached ∧
      (s.readReg 4).getLsbD 6 = s.pastReset ∧ (s.readReg 4).getLsbD 7 = s.prevClockHigh ∧
      (s.readReg 4).getLsbD 8 = s.pendingRiseIndex.isSome ∧ (s.readReg 4).getLsbD 9 = s.heldByte.isSome)

/-- 10_state.md R47, R48: COUNT and PENDING of a started block, PENDING_VALID telling an index from none; the
configuration registers read back, and the write-only registers and register numbers above 10 read 0 (R40, R49). -/
def Obligations.RegisterReadback : Prop :=
  ∀ s : State,
    (s.run ≠ .idle → s.readReg 6 ++ s.readReg 5 = s.idx) ∧
    (s.run ≠ .idle →
      (∀ n, s.pendingRiseIndex = some n → s.readReg 8 ++ s.readReg 7 = n ∧ (s.readReg 4).getLsbD 8 = true) ∧
      (s.pendingRiseIndex = none → s.readReg 8 ++ s.readReg 7 = 0#64 ∧ (s.readReg 4).getLsbD 8 = false)) ∧
    s.readReg 0 = s.cfg.chanMap ∧ s.readReg 1 = s.cfg.ctrl ∧ s.readReg 2 = s.cfg.limitLo ∧
    s.readReg 3 = s.cfg.limitHi ∧ ∀ r, 9 ≤ r → s.readReg r = 0#32

/-- 70_reset_and_hazards.md R280, 10_state.md R52: a block reset leaves IDLE, no error, no completion flag and the
reset configuration, in any state and during a run too; STATUS then reads 0. What R52 leaves unspecified is a free
value (log entry 4) and nothing is said of it. -/
def Obligations.BlockResetLeavesSpecifiedValues : Prop :=
  ∀ (s : State) (rest : List HostAccess), s.host = .blockReset :: rest →
    ∃ t, step s = .next t ∧ t.run = .idle ∧ t.err = .none ∧ t.empty = false ∧ t.limitReached = false ∧
      t.readReg 0 = 0x00F43210#32 ∧ t.readReg 1 = 0x00000001#32 ∧ t.readReg 2 = 0x00030E08#32 ∧
      t.readReg 3 = 0x00000000#32 ∧ t.readReg 4 = 0x00000000#32 ∧ t.host = rest

/-- 10_state.md R40, R52: what reset leaves, of the values the spec gives. -/
def Obligations.ResetStateSpecifiedValues : Prop :=
  State.reset.run = .idle ∧ State.reset.err = .none ∧ State.reset.empty = false ∧
  State.reset.limitReached = false ∧ State.reset.readReg 0 = 0x00F43210#32 ∧
  State.reset.readReg 1 = 0x00000001#32 ∧ State.reset.readReg 2 = 0x00030E08#32 ∧
  State.reset.readReg 3 = 0x00000000#32 ∧ State.reset.readReg 4 = 0x00000000#32 ∧
  State.reset.readReg 9 = 0x00000000#32 ∧ State.reset.readReg 10 = 0x00000000#32

/-! ## Rules of the whole machine -/

/-- The invariant of Safety.lean holds after reset. -/
def Obligations.ResetMeetsTheInvariant : Prop := State.reset.Inv

/-- Every step keeps the invariant: reserved bits 0, a running run has a legal map and has not reached its bound,
flags agree with the status, the pending edge is of a processed sample, and the events are in sample order with at
most one of each kind per sample and no address before the one ResetObserved (10_state.md R54, R38, R45). -/
def Obligations.StepKeepsTheInvariant : Prop :=
  ∀ s t : State, s.Inv → step s = .next t → t.Inv

/-- In every state that meets the invariant every host interaction completes: no sample, no byte, no command and no
register access stops the machine (60_exceptions.md R253, 70_reset_and_hazards.md R286). -/
def Obligations.EveryInteractionCompletes : Prop :=
  ∀ s : State, s.Inv → ∃ t, step s = .next t

/-- 10_state.md R33, R45: within a run `pastReset` never goes back to 0 and the event stream only grows; only a block
reset or a command that ends the run and starts another does otherwise. -/
def Obligations.PastResetAndEventsOnlyGrow : Prop :=
  ∀ s t : State, s.run = .running → s.host.head? ≠ some .blockReset →
    (∀ v, s.host.head? = some (.write 9 v) → v.getLsbD 0 = false ∨ v.getLsbD 1 = false) → step s = .next t →
    (s.pastReset = true → t.pastReset = true) ∧ s.events <+: t.events ∧ s.idx.toNat ≤ t.idx.toNat

/-- 10_state.md R44, 44_run_control.md R231: during a run no step but a block reset changes the configuration, and
`cfgRun` changes only where the run ends and another starts. -/
def Obligations.ConfigurationIsFixedDuringARun : Prop :=
  ∀ s t : State, s.run = .running → s.host.head? ≠ some .blockReset → step s = .next t →
    t.cfg = s.cfg ∧ (t.cfgRun = s.cfgRun ∨ ∃ v, s.host.head? = some (.write 9 v) ∧ v.getLsbD 0 = true ∧
      v.getLsbD 1 = true ∧ t.cfgRun = s.cfg)

/-- 60_exceptions.md R255, R264: outside a run only a Start and a block reset change anything but the configuration
registers. -/
def Obligations.OutsideARunOnlyStartChangesTheDecoder : Prop :=
  ∀ s t : State, s.run ≠ .running → s.host.head? ≠ some .blockReset →
    (∀ v, s.host.head? = some (.write 9 v) → v.getLsbD 0 = false) → step s = .next t →
    t = { s with cfg := t.cfg, host := t.host, reply := t.reply }

/-- 44_run_control.md R223: a run ends only by EndOfStream, by its sample limit or by index exhaustion (or a block
reset, 70_reset_and_hazards.md R280), and the limit ends it right after a BYTE_HIGH that leaves no byte held (40_sample_source.md R125). -/
def Obligations.RunsEndOnlyByTheRules : Prop :=
  ∀ s t : State, s.run = .running → step s = .next t → t.run ≠ .running →
    s.host.head? = some .blockReset ∨
    (∃ v, s.host.head? = some (.write 9 v) ∧ v.getLsbD 1 = true) ∨
    ((∃ v, s.host.head? = some (.write 10 v)) ∧ s.heldByte.isSome = true ∧ t.run = .done ∧
      t.limitReached = true ∧ t.heldByte = none ∧ t.idx.toNat = s.idx.toNat + 1 ∧
      ((∃ n, s.cfgRun.sampleLimit = some n ∧ n.toNat ≤ t.idx.toNat) ∨ t.idx.toNat = 2 ^ 64 - 1))

/-- 60_exceptions.md R251, R252, R253: TRUNCATED_STREAM is raised only by an EndOfStream with a byte held and
CHANNEL_MAP only by a Start with an illegal map; no other operation changes the error code to an error. -/
def Obligations.ErrorsAreRaisedOnlyByTheirOperations : Prop :=
  ∀ (s t : State) (i : Instr), exec i s = .next t → t.err ≠ s.err → t.err ≠ .none →
    (i = .endOfStreamTruncated ∧ t.err = .truncatedStream ∧ s.heldByte.isSome = true ∧ t.run = .error) ∨
    (i = .startBadMap ∧ t.err = .channelMap ∧ legalMap s.cfg.chanMap = false ∧ t.run = .error ∧ t.idx = 0#64 ∧
      t.events = [])

/-- 43_address_latch.md R186, R180, R188: a new address event comes only from the sample two after the pending rising
edge, once reset has been seen, with CS1 at 0 and CS2 at 1, and holds that sample's own address bits. -/
def Obligations.AddressesComeTwoSamplesAfterTheEdge : Prop :=
  ∀ (s t : State) (smp : Sample) (i : Index) (a : Addr), exec (.sampleStep smp) s = .next t →
    .addressDecoded i a ∈ t.events → .addressDecoded i a ∉ s.events →
    i = s.idx ∧ (∃ n, s.pendingRiseIndex = some n ∧ i.toNat = n.toNat + 2) ∧ t.pastReset = true ∧
    cs1Bit s.cfgRun.chanMap smp = false ∧ cs2Bit s.cfgRun.chanMap smp = true ∧ a = addrField s.cfgRun.chanMap smp

/-- 41_reset_tracker.md R143: a step that leaves a started block which has not seen RESET set leaves ClockEdge events
only, so no AddressDecoded and no ResetObserved. -/
def Obligations.NoResetNoAddress : Prop :=
  ∀ s t : State, s.Inv → step s = .next t → t.run ≠ .idle → t.pastReset = false →
    ∀ e ∈ t.events, ∃ i, e = .clockEdge i

/-- 10_state.md R53, "no persistence across runs": a Start leaves the same block whatever the state before it, given the
same configuration registers. -/
def Obligations.StartForgetsTheLastRun : Prop :=
  ∀ (s t : State) (v : Word) (rest : List HostAccess), s.run ≠ .running → t.run ≠ .running → s.cfg = t.cfg →
    v.getLsbD 0 = true → s.host = .write 9 v :: rest → t.host = .write 9 v :: rest →
    ∃ s' t', step s = .next s' ∧ step t = .next t' ∧ State.SameBlock s' t' ∧
      (legalMap s.cfg.chanMap = true → s'.cfgRun = t'.cfgRun)

/-- 44_run_control.md R234, 20_memory.md R71: a whole decode run is a total, deterministic function of the
configuration and the bytes, whatever the block did before, and it ends in DONE or ERROR. -/
def Obligations.DecodeIsAFunctionOfConfigurationAndBytes : Prop :=
  ∀ (c : RunConfig) (bytes : List Byte) (s t : State),
    ∃ s' t', decodeRun c bytes s = .next s' ∧ decodeRun c bytes t = .next t' ∧ State.SameBlock s' t' ∧
      s'.statusWord = t'.statusWord ∧ (s'.run = .done ∨ s'.run = .error)

/-- How a whole decode run with a legal map ends, with `n` samples allowed (44_run_control.md R217 to R221,
40_sample_source.md R122, R125, 60_exceptions.md R256): it counts the complete samples up to `n`; it ends by the limit
when there are that many, with TRUNCATED_STREAM when an odd byte is left before it, EMPTY when there was no byte. -/
def Obligations.DecodeRunsEndAsTheStreamSays : Prop :=
  ∀ (c : RunConfig) (bytes : List Byte) (s t : State), legalMap c.chanMap = true →
    decodeRun c bytes s = .next t →
    let n := (c.sampleLimit.map BitVec.toNat).getD (2 ^ 64 - 1)
    t.idx.toNat = min (bytes.length / 2) n ∧
    (t.limitReached = true ↔ n ≤ bytes.length / 2) ∧
    (t.err = .truncatedStream ↔ bytes.length / 2 < n ∧ bytes.length % 2 = 1) ∧
    (t.empty = true ↔ bytes = [] ∧ 0 < n) ∧
    (t.run = .error ↔ t.err = .truncatedStream)

/-- An illegal map ends a decode run at its Start: CHANNEL_MAP, no event, no sample counted, whatever the bytes
(60_exceptions.md R252, R256). -/
def Obligations.IllegalMapsDecodeNothing : Prop :=
  ∀ (c : RunConfig) (bytes : List Byte) (s : State), legalMap c.chanMap = false →
    ∃ t, decodeRun c bytes s = .next t ∧ t.statusWord = 0x0000000B#32 ∧ t.idx = 0#64 ∧ t.events = []
end

