-- ==== Sys2Proof/Laws/State.lean ====
section
/-! SUPPORT. The updates of State: one lemma per field per update, so that no later proof unfolds a record update. -/

namespace Sys2Proof.Machine

@[simp] theorem State.emit_pastReset (s : State) (e : Event) : (s.emit e).pastReset = s.pastReset := rfl
@[simp] theorem State.emit_prevClockHigh (s : State) (e : Event) : (s.emit e).prevClockHigh = s.prevClockHigh := rfl
@[simp] theorem State.emit_pendingRiseIndex (s : State) (e : Event) : (s.emit e).pendingRiseIndex = s.pendingRiseIndex := rfl
@[simp] theorem State.emit_idx (s : State) (e : Event) : (s.emit e).idx = s.idx := rfl
@[simp] theorem State.emit_heldByte (s : State) (e : Event) : (s.emit e).heldByte = s.heldByte := rfl
@[simp] theorem State.emit_run (s : State) (e : Event) : (s.emit e).run = s.run := rfl
@[simp] theorem State.emit_err (s : State) (e : Event) : (s.emit e).err = s.err := rfl
@[simp] theorem State.emit_empty (s : State) (e : Event) : (s.emit e).empty = s.empty := rfl
@[simp] theorem State.emit_limitReached (s : State) (e : Event) : (s.emit e).limitReached = s.limitReached := rfl
@[simp] theorem State.emit_cfg (s : State) (e : Event) : (s.emit e).cfg = s.cfg := rfl
@[simp] theorem State.emit_cfgRun (s : State) (e : Event) : (s.emit e).cfgRun = s.cfgRun := rfl
@[simp] theorem State.emit_events (s : State) (e : Event) : (s.emit e).events = s.events ++ [e] := rfl
@[simp] theorem State.emit_host (s : State) (e : Event) : (s.emit e).host = s.host := rfl
@[simp] theorem State.emit_reply (s : State) (e : Event) : (s.emit e).reply = s.reply := rfl
@[simp] theorem State.emit_draws (s : State) (e : Event) : (s.emit e).draws = s.draws := rfl

@[simp] theorem State.raiseError_pastReset (s : State) (code : ErrCode) : (s.raiseError code).pastReset = s.pastReset := rfl
@[simp] theorem State.raiseError_prevClockHigh (s : State) (code : ErrCode) : (s.raiseError code).prevClockHigh = s.prevClockHigh := rfl
@[simp] theorem State.raiseError_pendingRiseIndex (s : State) (code : ErrCode) : (s.raiseError code).pendingRiseIndex = s.pendingRiseIndex := rfl
@[simp] theorem State.raiseError_idx (s : State) (code : ErrCode) : (s.raiseError code).idx = s.idx := rfl
@[simp] theorem State.raiseError_heldByte (s : State) (code : ErrCode) : (s.raiseError code).heldByte = s.heldByte := rfl
@[simp] theorem State.raiseError_run (s : State) (code : ErrCode) : (s.raiseError code).run = RunStatus.error := rfl
@[simp] theorem State.raiseError_err (s : State) (code : ErrCode) : (s.raiseError code).err = code := rfl
@[simp] theorem State.raiseError_empty (s : State) (code : ErrCode) : (s.raiseError code).empty = s.empty := rfl
@[simp] theorem State.raiseError_limitReached (s : State) (code : ErrCode) : (s.raiseError code).limitReached = s.limitReached := rfl
@[simp] theorem State.raiseError_cfg (s : State) (code : ErrCode) : (s.raiseError code).cfg = s.cfg := rfl
@[simp] theorem State.raiseError_cfgRun (s : State) (code : ErrCode) : (s.raiseError code).cfgRun = s.cfgRun := rfl
@[simp] theorem State.raiseError_events (s : State) (code : ErrCode) : (s.raiseError code).events = s.events := rfl
@[simp] theorem State.raiseError_host (s : State) (code : ErrCode) : (s.raiseError code).host = s.host := rfl
@[simp] theorem State.raiseError_reply (s : State) (code : ErrCode) : (s.raiseError code).reply = s.reply := rfl
@[simp] theorem State.raiseError_draws (s : State) (code : ErrCode) : (s.raiseError code).draws = s.draws := rfl

@[simp] theorem State.finishLimit_pastReset (s : State) : s.finishLimit.pastReset = s.pastReset := rfl
@[simp] theorem State.finishLimit_prevClockHigh (s : State) : s.finishLimit.prevClockHigh = s.prevClockHigh := rfl
@[simp] theorem State.finishLimit_pendingRiseIndex (s : State) : s.finishLimit.pendingRiseIndex = s.pendingRiseIndex := rfl
@[simp] theorem State.finishLimit_idx (s : State) : s.finishLimit.idx = s.idx := rfl
@[simp] theorem State.finishLimit_heldByte (s : State) : s.finishLimit.heldByte = s.heldByte := rfl
@[simp] theorem State.finishLimit_run (s : State) : s.finishLimit.run = RunStatus.done := rfl
@[simp] theorem State.finishLimit_err (s : State) : s.finishLimit.err = s.err := rfl
@[simp] theorem State.finishLimit_empty (s : State) : s.finishLimit.empty = s.empty := rfl
@[simp] theorem State.finishLimit_limitReached (s : State) : s.finishLimit.limitReached = true := rfl
@[simp] theorem State.finishLimit_cfg (s : State) : s.finishLimit.cfg = s.cfg := rfl
@[simp] theorem State.finishLimit_cfgRun (s : State) : s.finishLimit.cfgRun = s.cfgRun := rfl
@[simp] theorem State.finishLimit_events (s : State) : s.finishLimit.events = s.events := rfl
@[simp] theorem State.finishLimit_host (s : State) : s.finishLimit.host = s.host := rfl
@[simp] theorem State.finishLimit_reply (s : State) : s.finishLimit.reply = s.reply := rfl
@[simp] theorem State.finishLimit_draws (s : State) : s.finishLimit.draws = s.draws := rfl

@[simp] theorem State.finishEmpty_pastReset (s : State) : s.finishEmpty.pastReset = s.pastReset := rfl
@[simp] theorem State.finishEmpty_prevClockHigh (s : State) : s.finishEmpty.prevClockHigh = s.prevClockHigh := rfl
@[simp] theorem State.finishEmpty_pendingRiseIndex (s : State) : s.finishEmpty.pendingRiseIndex = s.pendingRiseIndex := rfl
@[simp] theorem State.finishEmpty_idx (s : State) : s.finishEmpty.idx = s.idx := rfl
@[simp] theorem State.finishEmpty_heldByte (s : State) : s.finishEmpty.heldByte = s.heldByte := rfl
@[simp] theorem State.finishEmpty_run (s : State) : s.finishEmpty.run = RunStatus.done := rfl
@[simp] theorem State.finishEmpty_err (s : State) : s.finishEmpty.err = s.err := rfl
@[simp] theorem State.finishEmpty_empty (s : State) : s.finishEmpty.empty = true := rfl
@[simp] theorem State.finishEmpty_limitReached (s : State) : s.finishEmpty.limitReached = s.limitReached := rfl
@[simp] theorem State.finishEmpty_cfg (s : State) : s.finishEmpty.cfg = s.cfg := rfl
@[simp] theorem State.finishEmpty_cfgRun (s : State) : s.finishEmpty.cfgRun = s.cfgRun := rfl
@[simp] theorem State.finishEmpty_events (s : State) : s.finishEmpty.events = s.events := rfl
@[simp] theorem State.finishEmpty_host (s : State) : s.finishEmpty.host = s.host := rfl
@[simp] theorem State.finishEmpty_reply (s : State) : s.finishEmpty.reply = s.reply := rfl
@[simp] theorem State.finishEmpty_draws (s : State) : s.finishEmpty.draws = s.draws := rfl

@[simp] theorem State.finishOk_pastReset (s : State) : s.finishOk.pastReset = s.pastReset := rfl
@[simp] theorem State.finishOk_prevClockHigh (s : State) : s.finishOk.prevClockHigh = s.prevClockHigh := rfl
@[simp] theorem State.finishOk_pendingRiseIndex (s : State) : s.finishOk.pendingRiseIndex = s.pendingRiseIndex := rfl
@[simp] theorem State.finishOk_idx (s : State) : s.finishOk.idx = s.idx := rfl
@[simp] theorem State.finishOk_heldByte (s : State) : s.finishOk.heldByte = s.heldByte := rfl
@[simp] theorem State.finishOk_run (s : State) : s.finishOk.run = RunStatus.done := rfl
@[simp] theorem State.finishOk_err (s : State) : s.finishOk.err = s.err := rfl
@[simp] theorem State.finishOk_empty (s : State) : s.finishOk.empty = false := rfl
@[simp] theorem State.finishOk_limitReached (s : State) : s.finishOk.limitReached = false := rfl
@[simp] theorem State.finishOk_cfg (s : State) : s.finishOk.cfg = s.cfg := rfl
@[simp] theorem State.finishOk_cfgRun (s : State) : s.finishOk.cfgRun = s.cfgRun := rfl
@[simp] theorem State.finishOk_events (s : State) : s.finishOk.events = s.events := rfl
@[simp] theorem State.finishOk_host (s : State) : s.finishOk.host = s.host := rfl
@[simp] theorem State.finishOk_reply (s : State) : s.finishOk.reply = s.reply := rfl
@[simp] theorem State.finishOk_draws (s : State) : s.finishOk.draws = s.draws := rfl

@[simp] theorem State.initRun_pastReset (s : State) : s.initRun.pastReset = false := rfl
@[simp] theorem State.initRun_prevClockHigh (s : State) : s.initRun.prevClockHigh = false := rfl
@[simp] theorem State.initRun_pendingRiseIndex (s : State) : s.initRun.pendingRiseIndex = none := rfl
@[simp] theorem State.initRun_idx (s : State) : s.initRun.idx = 0#64 := rfl
@[simp] theorem State.initRun_heldByte (s : State) : s.initRun.heldByte = none := rfl
@[simp] theorem State.initRun_run (s : State) : s.initRun.run = s.run := rfl
@[simp] theorem State.initRun_err (s : State) : s.initRun.err = ErrCode.none := rfl
@[simp] theorem State.initRun_empty (s : State) : s.initRun.empty = false := rfl
@[simp] theorem State.initRun_limitReached (s : State) : s.initRun.limitReached = false := rfl
@[simp] theorem State.initRun_cfg (s : State) : s.initRun.cfg = s.cfg := rfl
@[simp] theorem State.initRun_cfgRun (s : State) : s.initRun.cfgRun = s.cfgRun := rfl
@[simp] theorem State.initRun_events (s : State) : s.initRun.events = [] := rfl
@[simp] theorem State.initRun_host (s : State) : s.initRun.host = s.host := rfl
@[simp] theorem State.initRun_reply (s : State) : s.initRun.reply = s.reply := rfl
@[simp] theorem State.initRun_draws (s : State) : s.initRun.draws = s.draws := rfl

@[simp] theorem State.latchRun_pastReset (s : State) : s.latchRun.pastReset = s.pastReset := rfl
@[simp] theorem State.latchRun_prevClockHigh (s : State) : s.latchRun.prevClockHigh = s.prevClockHigh := rfl
@[simp] theorem State.latchRun_pendingRiseIndex (s : State) : s.latchRun.pendingRiseIndex = s.pendingRiseIndex := rfl
@[simp] theorem State.latchRun_idx (s : State) : s.latchRun.idx = s.idx := rfl
@[simp] theorem State.latchRun_heldByte (s : State) : s.latchRun.heldByte = s.heldByte := rfl
@[simp] theorem State.latchRun_run (s : State) : s.latchRun.run = RunStatus.running := rfl
@[simp] theorem State.latchRun_err (s : State) : s.latchRun.err = s.err := rfl
@[simp] theorem State.latchRun_empty (s : State) : s.latchRun.empty = s.empty := rfl
@[simp] theorem State.latchRun_limitReached (s : State) : s.latchRun.limitReached = s.limitReached := rfl
@[simp] theorem State.latchRun_cfg (s : State) : s.latchRun.cfg = s.cfg := rfl
@[simp] theorem State.latchRun_cfgRun (s : State) : s.latchRun.cfgRun = s.cfg := rfl
@[simp] theorem State.latchRun_events (s : State) : s.latchRun.events = s.events := rfl
@[simp] theorem State.latchRun_host (s : State) : s.latchRun.host = s.host := rfl
@[simp] theorem State.latchRun_reply (s : State) : s.latchRun.reply = s.reply := rfl
@[simp] theorem State.latchRun_draws (s : State) : s.latchRun.draws = s.draws := rfl

@[simp] theorem State.putConfig_pastReset (s : State) (r : Nat) (v : Word) : (s.putConfig r v).pastReset = s.pastReset := rfl
@[simp] theorem State.putConfig_prevClockHigh (s : State) (r : Nat) (v : Word) : (s.putConfig r v).prevClockHigh = s.prevClockHigh := rfl
@[simp] theorem State.putConfig_pendingRiseIndex (s : State) (r : Nat) (v : Word) : (s.putConfig r v).pendingRiseIndex = s.pendingRiseIndex := rfl
@[simp] theorem State.putConfig_idx (s : State) (r : Nat) (v : Word) : (s.putConfig r v).idx = s.idx := rfl
@[simp] theorem State.putConfig_heldByte (s : State) (r : Nat) (v : Word) : (s.putConfig r v).heldByte = s.heldByte := rfl
@[simp] theorem State.putConfig_run (s : State) (r : Nat) (v : Word) : (s.putConfig r v).run = s.run := rfl
@[simp] theorem State.putConfig_err (s : State) (r : Nat) (v : Word) : (s.putConfig r v).err = s.err := rfl
@[simp] theorem State.putConfig_empty (s : State) (r : Nat) (v : Word) : (s.putConfig r v).empty = s.empty := rfl
@[simp] theorem State.putConfig_limitReached (s : State) (r : Nat) (v : Word) : (s.putConfig r v).limitReached = s.limitReached := rfl
@[simp] theorem State.putConfig_cfg (s : State) (r : Nat) (v : Word) : (s.putConfig r v).cfg = s.cfg.put r v := rfl
@[simp] theorem State.putConfig_cfgRun (s : State) (r : Nat) (v : Word) : (s.putConfig r v).cfgRun = s.cfgRun := rfl
@[simp] theorem State.putConfig_events (s : State) (r : Nat) (v : Word) : (s.putConfig r v).events = s.events := rfl
@[simp] theorem State.putConfig_host (s : State) (r : Nat) (v : Word) : (s.putConfig r v).host = s.host := rfl
@[simp] theorem State.putConfig_reply (s : State) (r : Nat) (v : Word) : (s.putConfig r v).reply = s.reply := rfl
@[simp] theorem State.putConfig_draws (s : State) (r : Nat) (v : Word) : (s.putConfig r v).draws = s.draws := rfl

@[simp] theorem State.answer_pastReset (s : State) (r : Reply) : (s.answer r).pastReset = s.pastReset := rfl
@[simp] theorem State.answer_prevClockHigh (s : State) (r : Reply) : (s.answer r).prevClockHigh = s.prevClockHigh := rfl
@[simp] theorem State.answer_pendingRiseIndex (s : State) (r : Reply) : (s.answer r).pendingRiseIndex = s.pendingRiseIndex := rfl
@[simp] theorem State.answer_idx (s : State) (r : Reply) : (s.answer r).idx = s.idx := rfl
@[simp] theorem State.answer_heldByte (s : State) (r : Reply) : (s.answer r).heldByte = s.heldByte := rfl
@[simp] theorem State.answer_run (s : State) (r : Reply) : (s.answer r).run = s.run := rfl
@[simp] theorem State.answer_err (s : State) (r : Reply) : (s.answer r).err = s.err := rfl
@[simp] theorem State.answer_empty (s : State) (r : Reply) : (s.answer r).empty = s.empty := rfl
@[simp] theorem State.answer_limitReached (s : State) (r : Reply) : (s.answer r).limitReached = s.limitReached := rfl
@[simp] theorem State.answer_cfg (s : State) (r : Reply) : (s.answer r).cfg = s.cfg := rfl
@[simp] theorem State.answer_cfgRun (s : State) (r : Reply) : (s.answer r).cfgRun = s.cfgRun := rfl
@[simp] theorem State.answer_events (s : State) (r : Reply) : (s.answer r).events = s.events := rfl
@[simp] theorem State.answer_host (s : State) (r : Reply) : (s.answer r).host = s.host := rfl
@[simp] theorem State.answer_reply (s : State) (r : Reply) : (s.answer r).reply = r := rfl
@[simp] theorem State.answer_draws (s : State) (r : Reply) : (s.answer r).draws = s.draws := rfl

@[simp] theorem State.observeReset_pastReset (s : State) : s.observeReset.pastReset = true := rfl
@[simp] theorem State.observeReset_prevClockHigh (s : State) : s.observeReset.prevClockHigh = s.prevClockHigh := rfl
@[simp] theorem State.observeReset_pendingRiseIndex (s : State) : s.observeReset.pendingRiseIndex = s.pendingRiseIndex := rfl
@[simp] theorem State.observeReset_idx (s : State) : s.observeReset.idx = s.idx := rfl
@[simp] theorem State.observeReset_heldByte (s : State) : s.observeReset.heldByte = s.heldByte := rfl
@[simp] theorem State.observeReset_run (s : State) : s.observeReset.run = s.run := rfl
@[simp] theorem State.observeReset_err (s : State) : s.observeReset.err = s.err := rfl
@[simp] theorem State.observeReset_empty (s : State) : s.observeReset.empty = s.empty := rfl
@[simp] theorem State.observeReset_limitReached (s : State) : s.observeReset.limitReached = s.limitReached := rfl
@[simp] theorem State.observeReset_cfg (s : State) : s.observeReset.cfg = s.cfg := rfl
@[simp] theorem State.observeReset_cfgRun (s : State) : s.observeReset.cfgRun = s.cfgRun := rfl
@[simp] theorem State.observeReset_events (s : State) : s.observeReset.events = s.events ++ [.resetObserved s.idx] := rfl
@[simp] theorem State.observeReset_host (s : State) : s.observeReset.host = s.host := rfl
@[simp] theorem State.observeReset_reply (s : State) : s.observeReset.reply = s.reply := rfl
@[simp] theorem State.observeReset_draws (s : State) : s.observeReset.draws = s.draws := rfl

@[simp] theorem State.consumePending_pastReset (s : State) : s.consumePending.pastReset = s.pastReset := rfl
@[simp] theorem State.consumePending_prevClockHigh (s : State) : s.consumePending.prevClockHigh = s.prevClockHigh := rfl
@[simp] theorem State.consumePending_pendingRiseIndex (s : State) : s.consumePending.pendingRiseIndex = none := rfl
@[simp] theorem State.consumePending_idx (s : State) : s.consumePending.idx = s.idx := rfl
@[simp] theorem State.consumePending_heldByte (s : State) : s.consumePending.heldByte = s.heldByte := rfl
@[simp] theorem State.consumePending_run (s : State) : s.consumePending.run = s.run := rfl
@[simp] theorem State.consumePending_err (s : State) : s.consumePending.err = s.err := rfl
@[simp] theorem State.consumePending_empty (s : State) : s.consumePending.empty = s.empty := rfl
@[simp] theorem State.consumePending_limitReached (s : State) : s.consumePending.limitReached = s.limitReached := rfl
@[simp] theorem State.consumePending_cfg (s : State) : s.consumePending.cfg = s.cfg := rfl
@[simp] theorem State.consumePending_cfgRun (s : State) : s.consumePending.cfgRun = s.cfgRun := rfl
@[simp] theorem State.consumePending_events (s : State) : s.consumePending.events = s.events := rfl
@[simp] theorem State.consumePending_host (s : State) : s.consumePending.host = s.host := rfl
@[simp] theorem State.consumePending_reply (s : State) : s.consumePending.reply = s.reply := rfl
@[simp] theorem State.consumePending_draws (s : State) : s.consumePending.draws = s.draws := rfl

@[simp] theorem State.emitAddress_pastReset (s : State) (smp : Sample) : (s.emitAddress smp).pastReset = s.pastReset := rfl
@[simp] theorem State.emitAddress_prevClockHigh (s : State) (smp : Sample) : (s.emitAddress smp).prevClockHigh = s.prevClockHigh := rfl
@[simp] theorem State.emitAddress_pendingRiseIndex (s : State) (smp : Sample) : (s.emitAddress smp).pendingRiseIndex = s.pendingRiseIndex := rfl
@[simp] theorem State.emitAddress_idx (s : State) (smp : Sample) : (s.emitAddress smp).idx = s.idx := rfl
@[simp] theorem State.emitAddress_heldByte (s : State) (smp : Sample) : (s.emitAddress smp).heldByte = s.heldByte := rfl
@[simp] theorem State.emitAddress_run (s : State) (smp : Sample) : (s.emitAddress smp).run = s.run := rfl
@[simp] theorem State.emitAddress_err (s : State) (smp : Sample) : (s.emitAddress smp).err = s.err := rfl
@[simp] theorem State.emitAddress_empty (s : State) (smp : Sample) : (s.emitAddress smp).empty = s.empty := rfl
@[simp] theorem State.emitAddress_limitReached (s : State) (smp : Sample) : (s.emitAddress smp).limitReached = s.limitReached := rfl
@[simp] theorem State.emitAddress_cfg (s : State) (smp : Sample) : (s.emitAddress smp).cfg = s.cfg := rfl
@[simp] theorem State.emitAddress_cfgRun (s : State) (smp : Sample) : (s.emitAddress smp).cfgRun = s.cfgRun := rfl
@[simp] theorem State.emitAddress_events (s : State) (smp : Sample) : (s.emitAddress smp).events = s.events ++ [.addressDecoded s.idx (s.address smp)] := rfl
@[simp] theorem State.emitAddress_host (s : State) (smp : Sample) : (s.emitAddress smp).host = s.host := rfl
@[simp] theorem State.emitAddress_reply (s : State) (smp : Sample) : (s.emitAddress smp).reply = s.reply := rfl
@[simp] theorem State.emitAddress_draws (s : State) (smp : Sample) : (s.emitAddress smp).draws = s.draws := rfl

@[simp] theorem State.recordEdge_pastReset (s : State) : s.recordEdge.pastReset = s.pastReset := rfl
@[simp] theorem State.recordEdge_prevClockHigh (s : State) : s.recordEdge.prevClockHigh = s.prevClockHigh := rfl
@[simp] theorem State.recordEdge_pendingRiseIndex (s : State) : s.recordEdge.pendingRiseIndex = some s.idx := rfl
@[simp] theorem State.recordEdge_idx (s : State) : s.recordEdge.idx = s.idx := rfl
@[simp] theorem State.recordEdge_heldByte (s : State) : s.recordEdge.heldByte = s.heldByte := rfl
@[simp] theorem State.recordEdge_run (s : State) : s.recordEdge.run = s.run := rfl
@[simp] theorem State.recordEdge_err (s : State) : s.recordEdge.err = s.err := rfl
@[simp] theorem State.recordEdge_empty (s : State) : s.recordEdge.empty = s.empty := rfl
@[simp] theorem State.recordEdge_limitReached (s : State) : s.recordEdge.limitReached = s.limitReached := rfl
@[simp] theorem State.recordEdge_cfg (s : State) : s.recordEdge.cfg = s.cfg := rfl
@[simp] theorem State.recordEdge_cfgRun (s : State) : s.recordEdge.cfgRun = s.cfgRun := rfl
@[simp] theorem State.recordEdge_events (s : State) : s.recordEdge.events = s.events := rfl
@[simp] theorem State.recordEdge_host (s : State) : s.recordEdge.host = s.host := rfl
@[simp] theorem State.recordEdge_reply (s : State) : s.recordEdge.reply = s.reply := rfl
@[simp] theorem State.recordEdge_draws (s : State) : s.recordEdge.draws = s.draws := rfl

@[simp] theorem State.clockUpdate_pastReset (s : State) (smp : Sample) : (s.clockUpdate smp).pastReset = s.pastReset := rfl
@[simp] theorem State.clockUpdate_prevClockHigh (s : State) (smp : Sample) : (s.clockUpdate smp).prevClockHigh = s.clockHigh smp := rfl
@[simp] theorem State.clockUpdate_pendingRiseIndex (s : State) (smp : Sample) : (s.clockUpdate smp).pendingRiseIndex = s.pendingRiseIndex := rfl
@[simp] theorem State.clockUpdate_idx (s : State) (smp : Sample) : (s.clockUpdate smp).idx = s.idx := rfl
@[simp] theorem State.clockUpdate_heldByte (s : State) (smp : Sample) : (s.clockUpdate smp).heldByte = s.heldByte := rfl
@[simp] theorem State.clockUpdate_run (s : State) (smp : Sample) : (s.clockUpdate smp).run = s.run := rfl
@[simp] theorem State.clockUpdate_err (s : State) (smp : Sample) : (s.clockUpdate smp).err = s.err := rfl
@[simp] theorem State.clockUpdate_empty (s : State) (smp : Sample) : (s.clockUpdate smp).empty = s.empty := rfl
@[simp] theorem State.clockUpdate_limitReached (s : State) (smp : Sample) : (s.clockUpdate smp).limitReached = s.limitReached := rfl
@[simp] theorem State.clockUpdate_cfg (s : State) (smp : Sample) : (s.clockUpdate smp).cfg = s.cfg := rfl
@[simp] theorem State.clockUpdate_cfgRun (s : State) (smp : Sample) : (s.clockUpdate smp).cfgRun = s.cfgRun := rfl
@[simp] theorem State.clockUpdate_events (s : State) (smp : Sample) : (s.clockUpdate smp).events = s.events := rfl
@[simp] theorem State.clockUpdate_host (s : State) (smp : Sample) : (s.clockUpdate smp).host = s.host := rfl
@[simp] theorem State.clockUpdate_reply (s : State) (smp : Sample) : (s.clockUpdate smp).reply = s.reply := rfl
@[simp] theorem State.clockUpdate_draws (s : State) (smp : Sample) : (s.clockUpdate smp).draws = s.draws := rfl

@[simp] theorem State.holdByte_pastReset (s : State) (b : Byte) : (s.holdByte b).pastReset = s.pastReset := rfl
@[simp] theorem State.holdByte_prevClockHigh (s : State) (b : Byte) : (s.holdByte b).prevClockHigh = s.prevClockHigh := rfl
@[simp] theorem State.holdByte_pendingRiseIndex (s : State) (b : Byte) : (s.holdByte b).pendingRiseIndex = s.pendingRiseIndex := rfl
@[simp] theorem State.holdByte_idx (s : State) (b : Byte) : (s.holdByte b).idx = s.idx := rfl
@[simp] theorem State.holdByte_heldByte (s : State) (b : Byte) : (s.holdByte b).heldByte = some b := rfl
@[simp] theorem State.holdByte_run (s : State) (b : Byte) : (s.holdByte b).run = s.run := rfl
@[simp] theorem State.holdByte_err (s : State) (b : Byte) : (s.holdByte b).err = s.err := rfl
@[simp] theorem State.holdByte_empty (s : State) (b : Byte) : (s.holdByte b).empty = s.empty := rfl
@[simp] theorem State.holdByte_limitReached (s : State) (b : Byte) : (s.holdByte b).limitReached = s.limitReached := rfl
@[simp] theorem State.holdByte_cfg (s : State) (b : Byte) : (s.holdByte b).cfg = s.cfg := rfl
@[simp] theorem State.holdByte_cfgRun (s : State) (b : Byte) : (s.holdByte b).cfgRun = s.cfgRun := rfl
@[simp] theorem State.holdByte_events (s : State) (b : Byte) : (s.holdByte b).events = s.events := rfl
@[simp] theorem State.holdByte_host (s : State) (b : Byte) : (s.holdByte b).host = s.host := rfl
@[simp] theorem State.holdByte_reply (s : State) (b : Byte) : (s.holdByte b).reply = s.reply := rfl
@[simp] theorem State.holdByte_draws (s : State) (b : Byte) : (s.holdByte b).draws = s.draws := rfl

@[simp] theorem State.dropByte_pastReset (s : State) : s.dropByte.pastReset = s.pastReset := rfl
@[simp] theorem State.dropByte_prevClockHigh (s : State) : s.dropByte.prevClockHigh = s.prevClockHigh := rfl
@[simp] theorem State.dropByte_pendingRiseIndex (s : State) : s.dropByte.pendingRiseIndex = s.pendingRiseIndex := rfl
@[simp] theorem State.dropByte_idx (s : State) : s.dropByte.idx = s.idx := rfl
@[simp] theorem State.dropByte_heldByte (s : State) : s.dropByte.heldByte = none := rfl
@[simp] theorem State.dropByte_run (s : State) : s.dropByte.run = s.run := rfl
@[simp] theorem State.dropByte_err (s : State) : s.dropByte.err = s.err := rfl
@[simp] theorem State.dropByte_empty (s : State) : s.dropByte.empty = s.empty := rfl
@[simp] theorem State.dropByte_limitReached (s : State) : s.dropByte.limitReached = s.limitReached := rfl
@[simp] theorem State.dropByte_cfg (s : State) : s.dropByte.cfg = s.cfg := rfl
@[simp] theorem State.dropByte_cfgRun (s : State) : s.dropByte.cfgRun = s.cfgRun := rfl
@[simp] theorem State.dropByte_events (s : State) : s.dropByte.events = s.events := rfl
@[simp] theorem State.dropByte_host (s : State) : s.dropByte.host = s.host := rfl
@[simp] theorem State.dropByte_reply (s : State) : s.dropByte.reply = s.reply := rfl
@[simp] theorem State.dropByte_draws (s : State) : s.dropByte.draws = s.draws := rfl

@[simp] theorem State.blockReset_pastReset (s : State) : s.blockReset.pastReset = Config.unspecifiedPastReset (s.draws + 1) := rfl
@[simp] theorem State.blockReset_prevClockHigh (s : State) : s.blockReset.prevClockHigh = Config.unspecifiedPrevClockHigh (s.draws + 1) := rfl
@[simp] theorem State.blockReset_pendingRiseIndex (s : State) : s.blockReset.pendingRiseIndex = Config.unspecifiedPending (s.draws + 1) := rfl
@[simp] theorem State.blockReset_idx (s : State) : s.blockReset.idx = Config.unspecifiedIdx (s.draws + 1) := rfl
@[simp] theorem State.blockReset_heldByte (s : State) : s.blockReset.heldByte = Config.unspecifiedHeldByte (s.draws + 1) := rfl
@[simp] theorem State.blockReset_run (s : State) : s.blockReset.run = RunStatus.idle := rfl
@[simp] theorem State.blockReset_err (s : State) : s.blockReset.err = ErrCode.none := rfl
@[simp] theorem State.blockReset_empty (s : State) : s.blockReset.empty = false := rfl
@[simp] theorem State.blockReset_limitReached (s : State) : s.blockReset.limitReached = false := rfl
@[simp] theorem State.blockReset_cfg (s : State) : s.blockReset.cfg = RunConfig.atReset := rfl
@[simp] theorem State.blockReset_cfgRun (s : State) : s.blockReset.cfgRun = Config.unspecifiedCfgRun (s.draws + 1) := rfl
@[simp] theorem State.blockReset_events (s : State) : s.blockReset.events = Config.unspecifiedEvents (s.draws + 1) := rfl
@[simp] theorem State.blockReset_host (s : State) : s.blockReset.host = s.host := rfl
@[simp] theorem State.blockReset_reply (s : State) : s.blockReset.reply = s.reply := rfl
@[simp] theorem State.blockReset_draws (s : State) : s.blockReset.draws = s.draws + 1 := rfl

end Sys2Proof.Machine
end

