-- ==== Sys2Proof/Laws/Ops.lean ====
section
/-! SUPPORT. What each shared operation of the per-sample step and of the host's port can do, said once. -/

namespace Sys2Proof.Machine

/-! Sequencing. -/

@[simp] theorem andThen_next (s : State) (f : State → Result) : andThen (.next s) f = f s := rfl
@[simp] theorem andThen_fault (e : Fault) (f : State → Result) : andThen (.fault e) f = .fault e := rfl
@[simp] theorem andThen_refused (e : Refusal) (f : State → Result) : andThen (.refused e) f = .refused e := rfl

/-- A sequence answers a next state exactly when its first part does and the second does from there. -/
theorem andThen_eq_next {r : Result} {f : State → Result} {t : State} :
    andThen r f = .next t ↔ ∃ u, r = .next u ∧ f u = .next t := by
  cases r <;> simp

@[simp] theorem runStages_nil (s : State) : runStages [] s = .next s := rfl
@[simp] theorem runStages_cons (st : Stage) (w : Carrier) (l : List (Stage × Carrier)) (s : State) :
    runStages ((st, w) :: l) s = andThen (runStage st w s) (runStages l) := rfl

theorem runStage_op {st : Stage} {w : Carrier} {s : State} {i : Instr} (h : decode st w s.view = .op i) :
    runStage st w s = exec i s := by simp [runStage, h]

theorem runStage_ignored {st : Stage} {w : Carrier} {s : State} {why : Ignored}
    (h : decode st w s.view = .ignored why) : runStage st w s = .next s := by simp [runStage, h]

@[simp] theorem performAll_nil (s : State) : performAll [] s = .next s := rfl
@[simp] theorem performAll_cons (a : HostAccess) (l : List HostAccess) (s : State) :
    performAll (a :: l) s = andThen (perform a s) (performAll l) := rfl

theorem performAll_append (l₁ l₂ : List HostAccess) (s : State) :
    performAll (l₁ ++ l₂) s = andThen (performAll l₁ s) (performAll l₂) := by
  induction l₁ generalizing s with
  | nil => rfl
  | cons a l ih => cases h : perform a s <;> simp [h, ih]

/-! What the channels of a sample, the limit and the event options depend on: the latched configuration. -/

theorem clockHigh_congr {s t : State} (h : s.cfgRun = t.cfgRun) (smp : Sample) : s.clockHigh smp = t.clockHigh smp := by
  simp [State.clockHigh, h]

theorem selected_congr {s t : State} (h : s.cfgRun = t.cfgRun) (smp : Sample) : s.selected smp = t.selected smp := by
  simp [State.selected, h]

theorem address_congr {s t : State} (h : s.cfgRun = t.cfgRun) (smp : Sample) : s.address smp = t.address smp := by
  simp [State.address, h]

theorem limitHit_congr {s t : State} (h : s.cfgRun = t.cfgRun) (hi : s.idx = t.idx) : s.limitHit = t.limitHit := by
  simp [State.limitHit, h, hi]

theorem windowDue_congr {s t : State} (h : s.pendingRiseIndex = t.pendingRiseIndex) (hi : s.idx = t.idx) :
    s.windowDue = t.windowDue := by
  simp [State.windowDue, h, hi]

theorem edgeReported_congr {s t : State} (h : s.cfgRun = t.cfgRun) (hp : s.pastReset = t.pastReset) :
    s.edgeReported = t.edgeReported := by
  simp [State.edgeReported, h, hp]

/-! The reset tracker. -/

/-- The reset tracker writes `pastReset` and may append one event; it changes nothing else. -/
theorem resetTracker_eq (s : State) (smp : Sample) :
    s.resetTracker smp =
      { s with pastReset := s.pastReset || s.resetSet smp,
               events := s.events ++ if s.resetDetected smp then [.resetObserved s.idx] else [] } := by
  cases s with | mk pr pc pend idx held run err emp lim cfg cr ev host rep dr =>
  cases pr <;> cases h : resetBit cr.chanMap smp <;>
    simp [State.resetTracker, State.resetDetected, State.resetSet, State.observeReset, State.emit, h]

/-! The address latch. -/

/-- The latch evaluation consumes the pending edge of an open window and may append one event; it changes nothing
else. -/
theorem latchEval_eq (s : State) (smp : Sample) :
    s.latchEval smp =
      { s with pendingRiseIndex := if s.window then none else s.pendingRiseIndex,
               events := s.events ++
                 if s.window && s.selected smp then [.addressDecoded s.idx (s.address smp)] else [] } := by
  cases hw : s.window <;> cases hs : s.selected smp <;>
    simp [State.latchEval, hw, hs, State.consumePending, State.emitAddress, State.emit, State.address]

/-! The clock edge detector. -/

/-- The edge detection records the index of a rising edge and may append one event; it changes nothing else. -/
theorem edgeDetect_eq (s : State) (smp : Sample) :
    s.edgeDetect smp =
      { s with pendingRiseIndex := if s.edgeRises smp then some s.idx else s.pendingRiseIndex,
               events := s.events ++ if s.edgeRises smp && s.edgeReported then [.clockEdge s.idx] else [] } := by
  have hr : s.recordEdge.edgeReported = s.edgeReported := edgeReported_congr rfl rfl
  cases he : s.edgeRises smp
  · simp [State.edgeDetect, he]
  · rw [State.edgeDetect, if_pos he, State.clockEdgeEvent, hr]
    cases hp : s.edgeReported <;> simp [State.recordEdge, State.emit]

/-! Index advance and stop checks. -/

theorem indexAdvance_of_lt {s : State} (h : s.idx.toNat < maxSamples) :
    s.indexAdvance = .next { s with idx := BitVec.ofNat 64 (s.idx.toNat + 1) } := by
  have : s.idxMax = false := by simp [State.idxMax]; omega
  simp [State.indexAdvance, this]

/-- Index advance answers a next state exactly below `2^64 - 1`, and then counts by one without wrapping. -/
theorem indexAdvance_eq_next {s t : State} :
    s.indexAdvance = .next t ↔
      s.idx.toNat ≠ maxSamples ∧ t = { s with idx := BitVec.ofNat 64 (s.idx.toNat + 1) } := by
  unfold State.indexAdvance State.idxMax
  by_cases h : s.idx.toNat = maxSamples <;> simp [h, eq_comm]

/-- The stop checks write `run` and `limitReached` and nothing else. -/
theorem stopChecks_eq (s : State) :
    s.stopChecks =
      { s with run := if s.limitHit || s.idxMax then .done else s.run,
               limitReached := s.limitReached || s.limitHit || s.idxMax } := by
  cases hl : s.limitHit <;> cases hm : s.idxMax <;> simp [State.stopChecks, hl, hm, State.finishLimit]

/-! The host's port. -/

@[simp] theorem step_nil {s : State} (h : s.host = []) : step s = .next s := by simp [step, h]

theorem step_cons {s : State} {a : HostAccess} {rest : List HostAccess} (h : s.host = a :: rest) :
    step s = perform a { s with host := rest } := by simp [step, h]

/-- A step performs the next host interaction on the state without it, or changes nothing when there is none. -/
theorem step_cases {s t : State} (h : step s = .next t) :
    (s.host = [] ∧ t = s) ∨
      ∃ a rest, s.host = a :: rest ∧ perform a { s with host := rest } = .next t := by
  cases hh : s.host with
  | nil => rw [step_nil hh] at h; cases h; exact .inl ⟨rfl, rfl⟩
  | cons a rest => exact .inr ⟨a, rest, rfl, by rwa [step_cons hh] at h⟩

end Sys2Proof.Machine
end

