-- ==== Sys2Proof/Laws/PerInstr.lean ====
section
/-! SUPPORT. One statement per operation about its encoding: in every decoder state in which its row is taken, the
decoder selects it from its own encoding, operands included. -/

namespace Sys2Proof.Laws.EncodeRoundTrip

/-- The operation is selected from its encoding wherever its row's condition holds. -/
def Statement (i : Instr) : Prop :=
  i.wellFormed = true → ∀ c : View, taken c i = true → decode (encode i).1 (encode i).2 c = .op i

theorem byteLow (b : Byte) : Statement (.byteLow b) := by
  intro _ c h
  simp_all [taken, encode, decode, decodeWrite, decodeByteIn]

theorem byteHigh (b : Byte) : Statement (.byteHigh b) := by
  intro _ c h
  simp_all [taken, encode, decode, decodeWrite, decodeByteIn]

theorem sampleStep (smp : Sample) : Statement (.sampleStep smp) := by
  intro _ c h
  simp_all [taken, encode, decode, decodeSample]

theorem resetDetect (smp : Sample) : Statement (.resetDetect smp) := by
  intro _ c h
  simp_all [taken, encode, decode, decodeSample, decodeReset]

theorem resetHold (smp : Sample) : Statement (.resetHold smp) := by
  intro _ c h
  cases hr : resetBit c.chanMap smp <;> simp_all [taken, encode, decode, decodeSample, decodeReset]

theorem latchDecode (smp : Sample) : Statement (.latchDecode smp) := by
  intro _ c h
  simp_all [taken, encode, decode, decodeSample, decodeLatch, chipSelected]

theorem latchReject (smp : Sample) : Statement (.latchReject smp) := by
  intro _ c h
  cases h1 : cs1Bit c.chanMap smp <;> simp_all [taken, encode, decode, decodeSample, decodeLatch, chipSelected]

theorem latchIdle (smp : Sample) : Statement (.latchIdle smp) := by
  intro _ c h
  simp_all [taken, encode, decode, decodeSample, decodeLatch]

theorem edgeRise (smp : Sample) : Statement (.edgeRise smp) := by
  intro _ c h
  simp_all [taken, encode, decode, decodeSample, decodeEdge]

theorem edgeNone (smp : Sample) : Statement (.edgeNone smp) := by
  intro _ c h
  cases hr : clockBit c.chanMap smp <;> simp_all [taken, encode, decode, decodeSample, decodeEdge]

theorem clockUpdate (smp : Sample) : Statement (.clockUpdate smp) := by
  intro _ _ _
  rfl

theorem indexAdvance : Statement .indexAdvance := by
  intro _ _ _
  rfl

theorem limitStop : Statement .limitStop := by
  intro _ c h
  simp_all [taken, encode, decode, decodeInternal]

theorem indexExhaust : Statement .indexExhaust := by
  intro _ c h
  simp_all [taken, encode, decode, decodeInternal]

theorem start : Statement .start := by
  intro _ c h
  simp_all [taken, encode, decode, decodeWrite, decodeStart]

theorem startBadMap : Statement .startBadMap := by
  intro _ c h
  simp_all [taken, encode, decode, decodeWrite, decodeStart]

theorem endOfStreamTruncated : Statement .endOfStreamTruncated := by
  intro _ c h
  simp_all [taken, encode, decode, decodeWrite, decodeEndOfStream]

theorem endOfStreamEmpty : Statement .endOfStreamEmpty := by
  intro _ c h
  simp_all [taken, encode, decode, decodeWrite, decodeEndOfStream]

theorem endOfStreamOk : Statement .endOfStreamOk := by
  intro _ c h
  simp_all [taken, encode, decode, decodeWrite, decodeEndOfStream]

theorem configWrite (r : Nat) (v : Word) : Statement (.configWrite r v) := by
  intro hw c h
  simp_all [Instr.wellFormed, taken, encode, decode, decodeWrite, decodeConfig, regLimitHi]

end Sys2Proof.Laws.EncodeRoundTrip
end

