-- ==== Sys2Proof/Laws/SampleStep.lean ====
section
/-! SUPPORT. The per-sample step: what its first three steps leave in each field, and when it answers a next state. -/

namespace Sys2Proof.Machine

/-- The reset detection, latch evaluation, edge detection and clock update of one sample, as one update: the window
reads `pastReset` after this sample's reset detection and the pending edge before this sample's edge detection
(44_run_control.md R211). -/
theorem track_eq (s : State) (smp : Sample) :
    s.track smp =
      { s with
        pastReset := s.pastReset || s.resetSet smp,
        prevClockHigh := s.clockHigh smp,
        pendingRiseIndex :=
          if s.edgeRises smp then some s.idx
          else if (s.pastReset || s.resetSet smp) && s.windowDue then none
          else s.pendingRiseIndex,
        events := s.events ++
          ((if s.resetDetected smp then [.resetObserved s.idx] else []) ++
           ((if (s.pastReset || s.resetSet smp) && s.windowDue && s.selected smp then
               [.addressDecoded s.idx (s.address smp)] else []) ++
            (if s.edgeRises smp && (s.cfgRun.emitClockEdges &&
                (!s.cfgRun.edgeRequiresReset || (s.pastReset || s.resetSet smp))) then
               [.clockEdge s.idx] else []))) } := by
  rw [State.track, resetTracker_eq, latchEval_eq, edgeDetect_eq]
  simp only [State.clockUpdate, List.append_assoc]
  rfl

@[simp] theorem track_idx (s : State) (smp : Sample) : (s.track smp).idx = s.idx := by rw [track_eq]
@[simp] theorem track_heldByte (s : State) (smp : Sample) : (s.track smp).heldByte = s.heldByte := by rw [track_eq]
@[simp] theorem track_run (s : State) (smp : Sample) : (s.track smp).run = s.run := by rw [track_eq]
@[simp] theorem track_err (s : State) (smp : Sample) : (s.track smp).err = s.err := by rw [track_eq]
@[simp] theorem track_empty (s : State) (smp : Sample) : (s.track smp).empty = s.empty := by rw [track_eq]
@[simp] theorem track_limitReached (s : State) (smp : Sample) : (s.track smp).limitReached = s.limitReached := by
  rw [track_eq]
@[simp] theorem track_cfg (s : State) (smp : Sample) : (s.track smp).cfg = s.cfg := by rw [track_eq]
@[simp] theorem track_cfgRun (s : State) (smp : Sample) : (s.track smp).cfgRun = s.cfgRun := by rw [track_eq]
@[simp] theorem track_host (s : State) (smp : Sample) : (s.track smp).host = s.host := by rw [track_eq]
@[simp] theorem track_reply (s : State) (smp : Sample) : (s.track smp).reply = s.reply := by rw [track_eq]
@[simp] theorem track_draws (s : State) (smp : Sample) : (s.track smp).draws = s.draws := by rw [track_eq]

/-- The state after the index advance of a sample, before the stop checks. -/
def State.counted (s : State) (smp : Sample) : State :=
  { s.track smp with idx := BitVec.ofNat 64 (s.idx.toNat + 1) }

/-- A sample is processed exactly when the index can advance, and then the stop checks end the step. -/
theorem sampleStep_eq_next {s t : State} {smp : Sample} :
    s.sampleStep smp = .next t ↔ s.idx.toNat ≠ maxSamples ∧ t = (s.counted smp).stopChecks := by
  unfold State.sampleStep State.counted
  simp only [andThen_eq_next, indexAdvance_eq_next, track_idx]
  constructor
  · rintro ⟨u, ⟨h, rfl⟩, ht⟩
    cases ht
    exact ⟨h, rfl⟩
  · rintro ⟨h, rfl⟩
    exact ⟨_, ⟨h, rfl⟩, rfl⟩

/-- A sample never raises a fault before the last index, and never a refusal (60_exceptions.md R253). -/
theorem sampleStep_of_lt {s : State} (smp : Sample) (h : s.idx.toNat ≠ maxSamples) :
    s.sampleStep smp = .next (s.counted smp).stopChecks := sampleStep_eq_next.mpr ⟨h, rfl⟩

/-- The index of a sample has a successor in 64 bits below `2^64 - 1`. -/
theorem succ_idx_toNat {s : State} (h : s.idx.toNat ≠ maxSamples) :
    (BitVec.ofNat 64 (s.idx.toNat + 1)).toNat = s.idx.toNat + 1 := by
  have := s.idx.isLt
  simp only [BitVec.toNat_ofNat, maxSamples] at *
  omega

end Sys2Proof.Machine
end

