-- ==== Sys2Proof/Laws/Stages.lean ====
section
/-! SUPPORT. The view of the state that selects operations, and what each stage does with what it selects. -/

namespace Sys2Proof.Machine

@[simp] theorem view_running (s : State) : s.view.running = s.isRunning := rfl
@[simp] theorem view_held (s : State) : s.view.held = s.heldByte.isSome := rfl
@[simp] theorem view_idxZero (s : State) : s.view.idxZero = decide (s.idx = 0#64) := rfl
@[simp] theorem view_cfgMapLegal (s : State) : s.view.cfgMapLegal = legalMap s.cfg.chanMap := rfl
@[simp] theorem view_chanMap (s : State) : s.view.chanMap = s.cfgRun.chanMap := rfl
@[simp] theorem view_pastReset (s : State) : s.view.pastReset = s.pastReset := rfl
@[simp] theorem view_prevClockHigh (s : State) : s.view.prevClockHigh = s.prevClockHigh := rfl
@[simp] theorem view_windowOpen (s : State) : s.view.windowOpen = s.window := rfl
@[simp] theorem view_limitHit (s : State) : s.view.limitHit = s.limitHit := rfl
@[simp] theorem view_idxMax (s : State) : s.view.idxMax = s.idxMax := rfl

theorem isRunning_iff {s : State} : s.isRunning = true ↔ s.run = .running := by simp [State.isRunning]
theorem isRunning_eq_false {s : State} : s.isRunning = false ↔ s.run ≠ .running := by simp [State.isRunning]

/-! The model's own fields do not take part in the selection. -/

@[simp] theorem view_withHost (s : State) (l : List HostAccess) : ({ s with host := l } : State).view = s.view := rfl
@[simp] theorem isRunning_withHost (s : State) (l : List HostAccess) :
    ({ s with host := l } : State).isRunning = s.isRunning := rfl

/-! The stages of a sample: each is the sub-step of 44_run_control.md R210 at its place. -/

theorem runStage_reset (s : State) (smp : Sample) : runStage .reset (.sample smp) s = .next (s.resetTracker smp) := by
  have hd : decode .reset (.sample smp) s.view =
      .op (if s.resetDetected smp then .resetDetect smp else .resetHold smp) := rfl
  rw [runStage_op hd]
  by_cases h : s.resetDetected smp = true <;> simp [h, exec, execResetDetect, execResetHold, State.resetTracker]

theorem runStage_latch (s : State) (smp : Sample) : runStage .latch (.sample smp) s = .next (s.latchEval smp) := by
  have hd : decode .latch (.sample smp) s.view =
      .op (if s.window then if s.selected smp then .latchDecode smp else .latchReject smp else .latchIdle smp) := rfl
  rw [runStage_op hd]
  by_cases h : s.window = true <;> by_cases h2 : s.selected smp = true <;>
    simp [h, h2, exec, execLatchDecode, execLatchReject, execLatchIdle, State.latchEval]

theorem runStage_edge (s : State) (smp : Sample) : runStage .edge (.sample smp) s = .next (s.edgeDetect smp) := by
  have hd : decode .edge (.sample smp) s.view =
      .op (if s.edgeRises smp then .edgeRise smp else .edgeNone smp) := rfl
  rw [runStage_op hd]
  by_cases h : s.edgeRises smp = true <;> simp [h, exec, execEdgeRise, execEdgeNone, State.edgeDetect]

theorem runStage_clock (s : State) (smp : Sample) : runStage .clock (.sample smp) s = .next (s.clockUpdate smp) := rfl

theorem runStage_index (s : State) (smp : Sample) : runStage .index (.sample smp) s = s.indexAdvance := rfl

theorem runStage_limit (s : State) :
    runStage .limit .internal s = .next (if s.limitHit then s.finishLimit else s) := by
  by_cases h : s.limitHit = true <;> simp [runStage, decode, decodeInternal, h, exec, execLimitStop]

theorem runStage_exhaust (s : State) :
    runStage .exhaust .internal s = .next (if s.idxMax && !s.limitHit then s.finishLimit else s) := by
  by_cases h : s.idxMax = true <;> by_cases h2 : s.limitHit = true <;>
    simp [runStage, decode, decodeInternal, h, h2, exec, execIndexExhaust]

/-! The stages of a register write. -/

theorem runStage_byteIn (s : State) (v : Word) :
    runStage .byteIn (.regWrite regByteIn v) s =
      if s.isRunning then
        if s.heldByte.isSome then exec (.byteHigh (v.setWidth 8)) s else exec (.byteLow (v.setWidth 8)) s
      else .next s := by
  by_cases h : s.isRunning = true <;> by_cases h2 : s.heldByte.isSome = true <;>
    simp_all [runStage, decode, decodeWrite, decodeByteIn]

theorem runStage_endOfStream (s : State) (v : Word) :
    runStage .endOfStream (.regWrite regCmd v) s =
      if v.getLsbD 1 && s.isRunning then
        if s.heldByte.isSome then exec .endOfStreamTruncated s
        else if s.idx = 0#64 then exec .endOfStreamEmpty s
        else exec .endOfStreamOk s
      else .next s := by
  by_cases hv : v.getLsbD 1 = true <;> by_cases h : s.isRunning = true <;>
    by_cases h2 : s.heldByte.isSome = true <;> by_cases h3 : s.idx = 0#64 <;>
    simp_all [runStage, decode, decodeWrite, decodeEndOfStream]

theorem runStage_start (s : State) (v : Word) :
    runStage .start (.regWrite regCmd v) s =
      if v.getLsbD 0 && !s.isRunning then
        if legalMap s.cfg.chanMap then exec .start s else exec .startBadMap s
      else .next s := by
  by_cases hv : v.getLsbD 0 = true <;> by_cases h : s.isRunning = true <;>
    by_cases h2 : legalMap s.cfg.chanMap = true <;>
    simp_all [runStage, decode, decodeWrite, decodeStart]

theorem runStage_config (s : State) (r : Nat) (v : Word) :
    runStage .config (.regWrite r v) s =
      if r ≤ regLimitHi ∧ s.isRunning = false then exec (.configWrite r v) s else .next s := by
  by_cases hr : r ≤ regLimitHi
  · by_cases h : s.isRunning = true <;> simp [runStage, decode, decodeWrite, decodeConfig, hr, h]
  · by_cases hp : r ≤ regPendingHi <;> by_cases hb : r ≤ regByteIn <;>
      simp [runStage, decode, decodeWrite, decodeConfig, hr, hp, hb]

/-! A register write, by register. -/

theorem writeReg_cmd (v : Word) (s : State) :
    writeReg regCmd v s =
      andThen (runStage .endOfStream (.regWrite regCmd v) s) (runStage .start (.regWrite regCmd v)) := by
  have h : runStages [(Stage.start, Carrier.regWrite regCmd v)] = runStage .start (.regWrite regCmd v) := by
    funext u
    cases hu : runStage .start (.regWrite regCmd v) u <;> simp [hu]
  simp [writeReg, writeStages, ← h]

theorem writeReg_byteIn (v : Word) (s : State) :
    writeReg regByteIn v s = runStage .byteIn (.regWrite regByteIn v) s := by
  have h : writeStages regByteIn = [.byteIn] := by decide
  cases hs : runStage .byteIn (.regWrite regByteIn v) s <;> simp [writeReg, h, hs]

theorem writeReg_other {r : Nat} (v : Word) (s : State) (h1 : r ≠ regCmd) (h2 : r ≠ regByteIn) :
    writeReg r v s = runStage .config (.regWrite r v) s := by
  cases hs : runStage .config (.regWrite r v) s <;> simp [writeReg, writeStages, h1, h2, hs]

end Sys2Proof.Machine
end

