-- ==== Sys2Proof/Tests/Slice0.lean ====
section
/-! SUPPORT. Tests: the well-formedness smoke test, a written-out carrier for every operation, one or two single steps
per operation with the results of the spec's own examples, and a witness for every statement that has hypotheses. -/

namespace Sys2Proof.Tests

open Sys2Proof.Machine

/-! Small states. -/

/-- A run just started with the configuration of a block reset. -/
def fresh : State := { State.reset with run := .running }

/-- A run that has seen reset and processed `i` samples, with the rising edge at `n` pending. -/
def armed (n i : Index) : State := { fresh with pastReset := true, pendingRiseIndex := some n, idx := i }

/-- The run with its sample limit enabled, at `n`, in state `s`. -/
def limited (n : Word) (s : State) : State :=
  { s with cfg := { s.cfg with ctrl := 3#32, limitLo := n }, cfgRun := { s.cfg with ctrl := 3#32, limitLo := n } }

/-- The state with these host interactions to come. -/
def given (s : State) (h : List HostAccess) : State := { s with host := h }

/-- A stopped block whose channel map is illegal (30_encoding.md R83). -/
def badMap : State := { State.reset with cfg := { RunConfig.atReset with chanMap := 0x00F43211#32 } }

/-- One reading of the next state, none where the machine stops. -/
def after {α : Type} (r : Result) (f : State → α) : Option α :=
  match r with
  | .next s => some (f s)
  | .fault _ => none
  | .refused _ => none

/-! Well-formedness: the one check refuses a register that is no configuration register (44_run_control.md R222). -/

theorem test_wellFormed_refuses : (Instr.configWrite 4 0#32).wellFormed = false := by decide
theorem test_wellFormed_accepts : (Instr.configWrite 3 0#32).wellFormed = true := by decide

/-! Decoding: carriers written out bit by bit from 10_state.md R49, 30_encoding.md R80 and opcode_table.json.
A sample is written `aaaaaaaaaaaa21CR` (30_encoding.md R80). -/

def idle : View := { View.probe with running := false }
def closed : View := { View.probe with windowOpen := false }

theorem test_decode_byteLow :
    decode .byteIn (.regWrite 10 0b00000000000000000000000000010011#32) .probe = .op (.byteLow 0b00010011#8) := by decide
theorem test_decode_byteHigh :
    decode .byteIn (.regWrite 10 0b11111111111111111111111110101011#32) { View.probe with held := true } =
      .op (.byteHigh 0b10101011#8) := by decide
theorem test_decode_sampleStep :
    decode .sample (.sample 0b0000000000000011#16) .probe = .op (.sampleStep 0x0003#16) := by decide
theorem test_decode_resetDetect :
    decode .reset (.sample 0b0000000000000001#16) .probe = .op (.resetDetect 0x0001#16) := by decide
theorem test_decode_resetHold :
    decode .reset (.sample 0b1111111111111110#16) .probe = .op (.resetHold 0xFFFE#16) := by decide
theorem test_decode_latchDecode :
    decode .latch (.sample 0b1010101111001010#16) .probe = .op (.latchDecode 0xABCA#16) := by decide
theorem test_decode_latchReject_cs1 :
    decode .latch (.sample 0b0000000000001100#16) .probe = .op (.latchReject 0x000C#16) := by decide
theorem test_decode_latchReject_cs2 :
    decode .latch (.sample 0b0000000000000011#16) .probe = .op (.latchReject 0x0003#16) := by decide
theorem test_decode_latchIdle :
    decode .latch (.sample 0b1010101111001010#16) closed = .op (.latchIdle 0xABCA#16) := by decide
theorem test_decode_edgeRise :
    decode .edge (.sample 0b0000000000000010#16) .probe = .op (.edgeRise 0x0002#16) := by decide
theorem test_decode_edgeNone :
    decode .edge (.sample 0b0000000000000010#16) { View.probe with prevClockHigh := true } =
      .op (.edgeNone 0x0002#16) := by decide
theorem test_decode_clockUpdate :
    decode .clock (.sample 0b0000000000000010#16) .probe = .op (.clockUpdate 0x0002#16) := by decide
theorem test_decode_indexAdvance :
    decode .index (.sample 0b0000000000000000#16) .probe = .op .indexAdvance := by decide
theorem test_decode_limitStop : decode .limit .internal { View.probe with limitHit := true } = .op .limitStop := by decide
theorem test_decode_indexExhaust :
    decode .exhaust .internal { View.probe with idxMax := true } = .op .indexExhaust := by decide
theorem test_decode_start :
    decode .start (.regWrite 9 0b00000000000000000000000000000001#32) idle = .op .start := by decide
theorem test_decode_startBadMap :
    decode .start (.regWrite 9 0b00000000000000000000000000000001#32) { idle with cfgMapLegal := false } =
      .op .startBadMap := by decide
theorem test_decode_endOfStreamTruncated :
    decode .endOfStream (.regWrite 9 0b00000000000000000000000000000010#32) { View.probe with held := true } =
      .op .endOfStreamTruncated := by decide
theorem test_decode_endOfStreamEmpty :
    decode .endOfStream (.regWrite 9 0b00000000000000000000000000000010#32) .probe = .op .endOfStreamEmpty := by decide
theorem test_decode_endOfStreamOk :
    decode .endOfStream (.regWrite 9 0b00000000000000000000000000000010#32) { View.probe with idxZero := false } =
      .op .endOfStreamOk := by decide
theorem test_decode_configWrite :
    decode .config (.regWrite 1 0b00000000000000000000000000000010#32) idle = .op (.configWrite 1 0x2#32) := by decide

/-- Rejections by name (10_state.md R40, 44_run_control.md R216, R217, R231, R233). -/
theorem test_decode_rejects :
    decode .byteIn (.regWrite 10 1#32) idle = .ignored .notRunning ∧
    decode .endOfStream (.regWrite 9 2#32) idle = .ignored .notRunning ∧
    decode .start (.regWrite 9 1#32) .probe = .ignored .alreadyRunning ∧
    decode .start (.regWrite 9 2#32) idle = .ignored .commandBitClear ∧
    decode .config (.regWrite 3 1#32) .probe = .ignored .alreadyRunning ∧
    decode .config (.regWrite 4 1#32) idle = .ignored .readOnlyRegister ∧
    decode .config (.regWrite 8 1#32) idle = .ignored .readOnlyRegister ∧
    decode .config (.regWrite 11 1#32) idle = .ignored .noSuchRegister := by decide

/-- The legal non-default map of 30_encoding.md R84, and one map per broken condition of R83. -/
theorem test_legal_maps :
    legalMap 0x00F43210#32 = true ∧ legalMap 0x00B0CDEF#32 = true ∧
    legalMap 0x00E43210#32 = false ∧ legalMap 0x00F43211#32 = false ∧ legalMap 0x00F43214#32 = false := by decide

/-! Results, with the operands and the results of the rules' own examples. -/

/-- 40_sample_source.md R120. -/
theorem test_byteLow : after (exec (.byteLow 0x01#8) fresh) (fun t => (t.heldByte, t.idx)) = some (some 0x01#8, 0#64) := by
  decide
/-- 40_sample_source.md R121, the sample `0x0013`: RESET and CLOCK set, CS2 clear. -/
theorem test_byteHigh :
    after (exec (.byteHigh 0x00#8) { fresh with heldByte := some 0x13#8 })
      (fun t => (t.heldByte, t.idx, t.events)) = some (none, 1#64, [.resetObserved 0#64, .clockEdge 0#64]) := by decide
/-- 44_run_control.md R210, its example. -/
theorem test_sampleStep :
    after (exec (.sampleStep 0x0003#16) fresh) (fun t => (t.pastReset, t.pendingRiseIndex, t.prevClockHigh, t.idx, t.events)) =
      some (true, some 0#64, true, 1#64, [.resetObserved 0#64, .clockEdge 0#64]) := by decide
/-- 44_run_control.md R220: `some(3)` stops right after sample 2. -/
theorem test_sampleStep_limit :
    after (exec (.sampleStep 0x0000#16) (limited 3#32 { fresh with idx := 2#64 })) (fun t => (t.run, t.limitReached, t.idx)) =
      some (.done, true, 3#64) := by decide
/-- 41_reset_tracker.md R140. -/
theorem test_resetDetect :
    after (exec (.resetDetect 0x0001#16) fresh) (fun t => (t.pastReset, t.events)) =
      some (true, [.resetObserved 0#64]) := by decide
/-- 41_reset_tracker.md R141. -/
theorem test_resetHold :
    after (exec (.resetHold 0x0003#16) { fresh with pastReset := true }) (fun t => (t.pastReset, t.events)) =
      some (true, []) := by decide
/-- 43_address_latch.md R182. -/
theorem test_latchDecode :
    after (exec (.latchDecode 0xABCA#16) (armed 2#64 4#64)) (fun t => (t.pendingRiseIndex, t.events)) =
      some (none, [.addressDecoded 4#64 0xABC#12]) := by decide
/-- 43_address_latch.md R184. -/
theorem test_latchReject :
    after (exec (.latchReject 0x0003#16) (armed 1#64 3#64)) (fun t => (t.pendingRiseIndex, t.events)) =
      some (none, []) := by decide
/-- 43_address_latch.md R185. -/
theorem test_latchIdle :
    after (exec (.latchIdle 0xABCA#16) { armed 0#64 2#64 with pastReset := false }) (fun t => (t.pendingRiseIndex, t.events)) =
      some (some 0#64, []) := by decide
/-- 42_clock_edge_detector.md R160. -/
theorem test_edgeRise :
    after (exec (.edgeRise 0x0003#16) { fresh with idx := 1#64 }) (fun t => (t.pendingRiseIndex, t.events)) =
      some (some 1#64, [.clockEdge 1#64]) := by decide
/-- 42_clock_edge_detector.md R162: no event before reset under EDGE_REQUIRES_RESET. -/
theorem test_edgeRise_gated :
    after (exec (.edgeRise 0x0002#16) { fresh with cfgRun := { RunConfig.atReset with ctrl := 5#32 } })
      (fun t => (t.pendingRiseIndex, t.events)) = some (some 0#64, []) := by decide
/-- 42_clock_edge_detector.md R163: a falling edge. -/
theorem test_edgeNone :
    after (exec (.edgeNone 0x0000#16) { armed 3#64 4#64 with prevClockHigh := true }) (fun t => (t.pendingRiseIndex, t.events)) =
      some (some 3#64, []) := by decide
/-- 42_clock_edge_detector.md R161. -/
theorem test_clockUpdate : after (exec (.clockUpdate 0x0003#16) fresh) State.prevClockHigh = some true := by decide
theorem test_clockUpdate_low :
    after (exec (.clockUpdate 0x0001#16) { fresh with prevClockHigh := true }) State.prevClockHigh = some false := by decide
/-- 44_run_control.md R213. -/
theorem test_indexAdvance : after (exec .indexAdvance fresh) State.idx = some 1#64 := by decide
/-- 44_run_control.md R220. -/
theorem test_limitStop :
    after (exec .limitStop (limited 3#32 { fresh with idx := 3#64 })) (fun t => (t.run, t.limitReached)) =
      some (.done, true) := by decide
/-- 44_run_control.md R221. -/
theorem test_indexExhaust :
    after (exec .indexExhaust { fresh with idx := 0xFFFFFFFFFFFFFFFF#64 }) (fun t => (t.run, t.limitReached)) =
      some (.done, true) := by decide
/-- 44_run_control.md R215: STATUS reads 1. -/
theorem test_start : after (exec .start State.reset) State.statusWord = some 0x00000001#32 := by decide
/-- 44_run_control.md R215, R220: LIMIT 0 ends the run at once. -/
theorem test_start_limit_zero :
    after (exec .start { State.reset with cfg := { RunConfig.atReset with ctrl := 2#32, limitLo := 0#32 } })
      State.statusWord = some 0x00000022#32 := by decide
/-- 60_exceptions.md R252. -/
theorem test_startBadMap :
    after (exec .startBadMap { State.reset with cfg := { RunConfig.atReset with chanMap := 0x00F43211#32 } })
      (fun t => (t.statusWord, t.idx)) = some (0x0000000B#32, 0#64) := by decide
/-- 40_sample_source.md R122: STATUS reads 0x47. -/
theorem test_endOfStreamTruncated :
    after (exec .endOfStreamTruncated { fresh with pastReset := true, idx := 1#64, heldByte := some 0x7F#8 })
      State.statusWord = some 0x00000047#32 := by decide
/-- 44_run_control.md R218 with 10_state.md R46. -/
theorem test_endOfStreamEmpty : after (exec .endOfStreamEmpty fresh) State.statusWord = some 0x00000012#32 := by decide
/-- 44_run_control.md R217: STATUS reads 0xC2. -/
theorem test_endOfStreamOk :
    after (exec .endOfStreamOk { fresh with pastReset := true, prevClockHigh := true, idx := 6#64 })
      State.statusWord = some 0x000000C2#32 := by decide
/-- 44_run_control.md R222. -/
theorem test_configWrite :
    after (exec (.configWrite 1 0x00000002#32) State.reset) (fun t => t.cfg.ctrl) = some 0x00000002#32 := by decide
/-- 10_state.md R41: reserved bits read 0. -/
theorem test_configWrite_reserved :
    after (exec (.configWrite 0 0xFFFFFFFF#32) State.reset) (fun t => t.cfg.chanMap) = some 0x00FFFFFF#32 := by decide

/-! Records and lines (30_encoding.md R90, R91). -/

theorem test_record_address :
    eventRecord (.addressDecoded 4#64 0xABC#12) = 0x80000000000000004ABC#80 := by decide
theorem test_line_address : logLine (.addressDecoded 7#64 0x0C3#12) = ['F', '0', 'C', '3', '\n'] := by decide
theorem test_line_edge :
    logLine (.clockEdge 10#64) = ['P', 'h', 'i', '2', ' ', 'E', 'd', 'g', 'e', ':', ' ', '1', '0', '\n'] := by decide
theorem test_line_reset : logLine (.resetObserved 0#64) = ['R', 'S', 'T', ':', ' ', '0', '\n'] := by decide

/-! Steps of the host, and the host's probe. -/

/-- 10_state.md R49: both command bits, EndOfStream first and Start second. -/
theorem test_cmd_both :
    after (step (given { fresh with heldByte := some 1#8, idx := 3#64 } [.write 9 3#32])) (fun t => (t.run, t.err, t.idx, t.heldByte)) =
      some (.running, .none, 0#64, none) := by decide
/-- 10_state.md R46. -/
theorem test_read_status :
    after (step (given State.reset [.read 4])) State.reply = some (.word 0x00000000#32) := by decide
theorem test_probe_sample : decodeTableWord 16 0xABCA = some (.latchDecode 0xABCA#16) := by decide
theorem test_probe_runs :
    after (step (State.reset.withFetchWord 16 0xABCA)) State.events =
      some [.addressDecoded 2#64 0xABC#12, .clockEdge 2#64] := by decide
theorem test_probe_byte :
    after (step (State.reset.withFetchWord 32 0x5A00)) (fun t => (t.run, t.heldByte)) = some (.running, some 0#8) := by decide
theorem test_probe_limit : after (step (State.reset.withFetchWord 8 0)) State.statusWord = some 0x00000022#32 := by decide
theorem test_probe_start : after (step (State.reset.withFetchWord 32 1)) State.statusWord = some 1#32 := by decide

/-! Witnesses: states and operands that meet the hypotheses of each statement together. -/

theorem witness_DecodeOfEncodeIsTheOperation :
    (Instr.latchReject 0x0003#16).wellFormed = true ∧ taken .probe (.latchReject 0x0003#16) = true ∧
    (Instr.configWrite 3 0xFFFFFFFF#32).wellFormed = true ∧ taken idle (.configWrite 3 0xFFFFFFFF#32) = true := by decide
theorem witness_SelectedOperationsAreTaken :
    decode .config (.regWrite 3 5#32) idle = .op (.configWrite 3 5#32) ∧
    decode .latch (.sample 0xABCA#16) .probe = .op (.latchDecode 0xABCA#16) ∧
    decode .byteIn (.regWrite 10 0xFFFFFF01#32) .probe = .op (.byteLow 0x01#8) := by decide
theorem witness_LegalMapIsTheThreeConditions :
    legalMap 0x00B0CDEF#32 = true ∧ posAddrLow 0x00F43210#32 = 4 ∧ badMap.run ≠ .running ∧
    legalMap badMap.cfg.chanMap = false := by decide
theorem witness_LegalMapsAreOneToOneAndOneHundredTwenty :
    legalMap 0x00C1DEF0#32 = true ∧ (0x00C1DEF0#32).extractLsb' 24 8 = 0#8 ∧
    legalMap 0x01C1DEF0#32 = true ∧ (0x01C1DEF0#32).extractLsb' 24 8 ≠ 0#8 := by decide
theorem witness_AddressBitsComeFromTheAddressChannels :
    legalMap 0x00B0CDEF#32 = true ∧ addrField 0x00B0CDEF#32 0x1ABC#16 = 0xABC#12 ∧
    legalMap 0x00F43210#32 = true ∧ addrField 0x00F43210#32 0xABC5#16 = 0xABC#12 := by decide
theorem witness_EventRecordsCarryTheirFields :
    eventRecord (.clockEdge 5#64) = 0xC0000000000000005000#80 ∧
    eventRecord (.resetObserved 5#64) = 0x40000000000000005000#80 := by decide
theorem witness_LogLinesAreTheirEvents :
    decimalIndex 0#64 = ['0'] ∧ decimalIndex 10#64 = ['1', '0'] ∧
    decimalIndex 0xFFFFFFFFFFFFFFFF#64 =
      ['1', '8', '4', '4', '6', '7', '4', '4', '0', '7', '3', '7', '0', '9', '5', '5', '1', '6', '1', '5'] := by decide
theorem witness_AddressLineIsLossyInTheIndexOnly :
    logLine (.addressDecoded 0#64 0xFFF#12) = logLine (.addressDecoded 9#64 0xFFF#12) ∧
    logLine (.addressDecoded 0#64 0xFFF#12) ≠ logLine (.addressDecoded 0#64 0xFFE#12) := by decide
theorem witness_ResetDetectResult :
    resetBit fresh.cfgRun.chanMap 0x0001#16 = true ∧ fresh.pastReset = false := by decide
theorem witness_SkippingRowsChangeNothing :
    resetBit fresh.cfgRun.chanMap 0x0000#16 = false ∧ (armed 0#64 2#64).pastReset = true ∧ fresh.pastReset = false ∧
    (armed 0#64 1#64).idx.toNat ≠ 0 + 2 ∧ (armed 0#64 3#64).idx.toNat ≠ 0 + 2 ∧
    clockBit fresh.cfgRun.chanMap 0x0001#16 = false ∧ ({ fresh with prevClockHigh := true } : State).prevClockHigh = true := by
  decide
theorem witness_LatchDecodeResult :
    (armed 2#64 4#64).pastReset = true ∧ (armed 2#64 4#64).pendingRiseIndex = some 2#64 ∧
    (armed 2#64 4#64).idx.toNat = (2#64).toNat + 2 ∧ cs1Bit (armed 2#64 4#64).cfgRun.chanMap 0xABCA#16 = false ∧
    cs2Bit (armed 2#64 4#64).cfgRun.chanMap 0xABCA#16 = true := by decide
theorem witness_LatchRejectResult :
    (armed 1#64 3#64).pastReset = true ∧ (armed 1#64 3#64).pendingRiseIndex = some 1#64 ∧
    (armed 1#64 3#64).idx.toNat = (1#64).toNat + 2 ∧ cs1Bit (armed 1#64 3#64).cfgRun.chanMap 0x000C#16 = true ∧
    cs2Bit (armed 1#64 3#64).cfgRun.chanMap 0x0000#16 = false := by decide
theorem witness_EdgeRiseResult :
    clockBit fresh.cfgRun.chanMap 0x0002#16 = true ∧ fresh.prevClockHigh = false := by decide
theorem witness_IndexAdvanceResult :
    ({ fresh with idx := 0xFFFFFFFFFFFFFFFE#64 } : State).idx.toNat < 2 ^ 64 - 1 ∧ fresh.idx.toNat < 2 ^ 64 - 1 := by decide
theorem witness_IndexAdvanceStopsOnlyAtTheLastIndex :
    ({ fresh with idx := 0xFFFFFFFFFFFFFFFF#64 } : State).idx.toNat = 2 ^ 64 - 1 := by decide
theorem witness_LimitStopResult :
    (limited 3#32 { fresh with idx := 3#64 }).cfgRun.ctrl.getLsbD 1 = true ∧
    (limited 3#32 { fresh with idx := 3#64 }).cfgRun.limitHi.toNat * 2 ^ 32 +
      (limited 3#32 { fresh with idx := 3#64 }).cfgRun.limitLo.toNat ≤ (limited 3#32 { fresh with idx := 3#64 }).idx.toNat := by
  decide
theorem witness_IndexExhaustResult :
    ({ fresh with idx := 0xFFFFFFFFFFFFFFFF#64 } : State).idx.toNat = 2 ^ 64 - 1 ∧
    ({ fresh with idx := 0xFFFFFFFFFFFFFFFF#64 } : State).cfgRun.ctrl.getLsbD 1 = false := by decide
theorem witness_ByteLowResult : fresh.run = .running ∧ fresh.heldByte = none := by decide
theorem witness_ByteHighProcessesTheAssembledSample :
    ({ fresh with heldByte := some 0xFF#8 } : State).run = .running ∧
    ({ fresh with heldByte := some 0xFF#8 } : State).heldByte = some 0xFF#8 ∧
    ({ fresh with heldByte := some 0xFF#8 } : State).idx.toNat < 2 ^ 64 - 1 := by decide
theorem witness_SampleStepResult :
    ({ fresh with idx := 0xFFFFFFFFFFFFFFFE#64 } : State).run = .running ∧
    ({ fresh with idx := 0xFFFFFFFFFFFFFFFE#64 } : State).idx.toNat < 2 ^ 64 - 1 := by decide
theorem witness_SampleStepRunsItsSelectedSubOperations : fresh.run = .running := by decide
theorem witness_StartResult :
    State.reset.run ≠ .running ∧ legalMap State.reset.cfg.chanMap = true ∧ badMap.run ≠ .running ∧
    legalMap badMap.cfg.chanMap = false ∧ fresh.run = .running := by decide
theorem witness_BadMapStartRecords :
    (given badMap [.write 9 3#32]).run ≠ .running ∧ legalMap (given badMap [.write 9 3#32]).cfg.chanMap = false ∧
    (3#32).getLsbD 0 = true ∧ (given badMap [.write 9 3#32]).host = .write 9 3#32 :: [] := by decide
theorem witness_EndOfStreamTruncatedResult :
    ({ fresh with heldByte := some 0x7F#8 } : State).run = .running ∧
    ({ fresh with heldByte := some 0x7F#8 } : State).heldByte = some 0x7F#8 := by decide
theorem witness_EndOfStreamEmptyResult : fresh.run = .running ∧ fresh.heldByte = none ∧ fresh.idx = 0#64 := by decide
theorem witness_EndOfStreamOkResult :
    (armed 0#64 1#64).run = .running ∧ (armed 0#64 1#64).heldByte = none ∧ 0 < (armed 0#64 1#64).idx.toNat := by decide
theorem witness_ConfigWriteResult : State.reset.run ≠ .running ∧ fresh.run = .running := by decide
theorem witness_UntakenOperationsChangeNothing :
    taken State.reset.view (.byteLow 1#8) = false ∧ taken fresh.view .start = false ∧
    taken fresh.view (.resetDetect 0x0000#16) = false := by decide

/-! Frames: the next states they speak of. -/

theorem witness_TrackerFrame :
    (exec (.latchDecode 0xABCA#16) (armed 2#64 4#64) =
      .next { armed 2#64 4#64 with pendingRiseIndex := none, events := [.addressDecoded 4#64 0xABC#12] }) ∧
    (exec (.clockUpdate 0x0002#16) fresh = .next { fresh with prevClockHigh := true }) := ⟨rfl, rfl⟩
theorem witness_IndexAndStopFrame : exec .indexAdvance fresh = .next { fresh with idx := 1#64 } := rfl
theorem witness_ByteAndSampleFrame :
    exec (.byteLow 0x01#8) fresh = .next { fresh with heldByte := some 0x01#8 } ∧
    exec (.sampleStep 0x0000#16) fresh = .next { fresh with idx := 1#64 } ∧
    exec (.byteHigh 0x00#8) { fresh with heldByte := some 0x00#8 } = .next { fresh with idx := 1#64 } := ⟨rfl, rfl, rfl⟩
theorem witness_StartFrame :
    exec .start State.reset = .next fresh ∧
    exec .startBadMap badMap = .next { badMap with run := .error, err := .channelMap } := ⟨rfl, rfl⟩
theorem witness_EndOfStreamFrame :
    exec .endOfStreamEmpty fresh = .next { fresh with run := .done, empty := true } ∧
    exec .endOfStreamOk (armed 0#64 1#64) = .next { armed 0#64 1#64 with run := .done } ∧
    exec .endOfStreamTruncated { fresh with heldByte := some 1#8 } =
      .next { fresh with run := .error, err := .truncatedStream } := ⟨rfl, rfl, rfl⟩
theorem witness_ConfigWriteFrame :
    exec (.configWrite 3 7#32) State.reset = .next { State.reset with cfg := { RunConfig.atReset with limitHi := 7#32 } } ∧
    exec (.configWrite 0 7#32) fresh = .next fresh := ⟨rfl, rfl⟩

/-! Steps. -/

theorem witness_StepRunsTheSelectedOperation :
    (given fresh [.write 10 0x101#32]).host = .write 10 0x101#32 :: [] ∧ writeStages 10 = [.byteIn] ∧
    decode .byteIn (.regWrite 10 0x101#32) (given fresh [.write 10 0x101#32]).view = .op (.byteLow 1#8) ∧
    writeStages 0 = [.config] ∧
    decode .config (.regWrite 0 7#32) (given State.reset [.write 0 7#32]).view = .op (.configWrite 0 7#32) := by decide
theorem witness_CmdRunsEndOfStreamThenStart :
    (given fresh [.write 9 3#32]).host = .write 9 3#32 :: [] ∧ (1#32).getLsbD 1 = false ∧ (2#32).getLsbD 0 = false := by
  decide
theorem witness_TwoBytesPresentOneSample :
    (given fresh [.write 10 0xCA#32, .write 10 0xAB#32]).run = .running ∧
    (given fresh [.write 10 0xCA#32, .write 10 0xAB#32]).heldByte = none ∧
    (given fresh [.write 10 0xCA#32, .write 10 0xAB#32]).idx.toNat < 2 ^ 64 - 1 ∧
    (0xCA#32).extractLsb' 0 8 = (0xABCA#16).extractLsb' 0 8 ∧ (0xAB#32).extractLsb' 0 8 = (0xABCA#16).extractLsb' 8 8 ∧
    (given fresh [.write 10 0xCA#32, .write 10 0xAB#32]).host = .write 10 0xCA#32 :: .write 10 0xAB#32 :: [] := by decide
theorem witness_IgnoredWritesChangeNothing :
    step (given State.reset [.write 10 0xFF#32]) = .next State.reset ∧ step (given fresh [.write 0 1#32]) = .next fresh ∧
    step (given fresh [.write 3 1#32]) = .next fresh ∧ step (given State.reset [.write 4 1#32]) = .next State.reset ∧
    step (given fresh [.write 8 1#32]) = .next fresh ∧ step (given State.reset [.write 11 1#32]) = .next State.reset ∧
    step (given fresh [.write 9 1#32]) = .next fresh ∧ step (given State.reset [.write 9 2#32]) = .next State.reset :=
  ⟨rfl, rfl, rfl, rfl, rfl, rfl, rfl, rfl⟩
theorem witness_ReadsAndIdlingChangeNothing :
    (given fresh [.read 4]).host = .read 4 :: [] ∧ (given fresh [.readEvents]).host = .readEvents :: [] ∧
    fresh.host = [] ∧ fresh.run ≠ .idle ∧
    after (step (given { fresh with events := [.clockEdge 0#64] } [.readEvents])) State.reply =
      some (.events [.clockEdge 0#64]) := by decide
theorem witness_StatusFields :
    State.reset.run = .idle ∧ State.reset.readReg 4 = 0#32 ∧ (armed 0#64 1#64).run ≠ .idle ∧
    ({ armed 0#64 1#64 with heldByte := some 1#8 } : State).readReg 4 = 0x00000341#32 := by decide
theorem witness_RegisterReadback :
    (armed 0xFFFFFFFF00000001#64 0x200000003#64).run ≠ .idle ∧
    (armed 0xFFFFFFFF00000001#64 0x200000003#64).readReg 6 = 2#32 ∧
    (armed 0xFFFFFFFF00000001#64 0x200000003#64).readReg 7 = 1#32 ∧ fresh.pendingRiseIndex = none ∧
    fresh.readReg 8 = 0#32 ∧ fresh.readReg 9 = 0#32 ∧ fresh.readReg 11 = 0#32 := by decide
theorem witness_BlockResetLeavesSpecifiedValues :
    (given fresh [.blockReset]).host = .blockReset :: [] ∧ (given State.reset [.blockReset]).host = .blockReset :: [] := by
  decide

/-! The whole machine. -/

theorem witness_StepKeepsTheInvariant :
    (given { armed 0#64 1#64 with prevClockHigh := true, events := [.resetObserved 0#64] } [.write 9 2#32]).Inv ∧
    step (given { armed 0#64 1#64 with prevClockHigh := true, events := [.resetObserved 0#64] } [.write 9 2#32]) =
      .next { armed 0#64 1#64 with prevClockHigh := true, events := [.resetObserved 0#64], run := .done } :=
  ⟨by decide, rfl⟩
theorem witness_EveryInteractionCompletes : (given fresh [.write 10 0xFF#32]).Inv := by decide
theorem witness_PastResetAndEventsOnlyGrow :
    (given (armed 0#64 1#64) [.write 9 2#32]).run = .running ∧
    (given (armed 0#64 1#64) [.write 9 2#32]).host.head? ≠ some .blockReset ∧
    (∀ v, (given (armed 0#64 1#64) [.write 9 2#32]).host.head? = some (.write 9 v) →
      v.getLsbD 0 = false ∨ v.getLsbD 1 = false) ∧
    step (given (armed 0#64 1#64) [.write 9 2#32]) = .next { armed 0#64 1#64 with run := .done } ∧
    (armed 0#64 1#64).pastReset = true := by
  refine ⟨rfl, by decide, ?_, rfl, rfl⟩
  intro v h
  cases h
  exact .inl rfl
theorem witness_ConfigurationIsFixedDuringARun :
    (given fresh [.write 9 3#32]).run = .running ∧ (given fresh [.write 9 3#32]).host.head? ≠ some .blockReset ∧
    step (given fresh [.write 9 3#32]) = .next fresh := ⟨by decide, by decide, rfl⟩
theorem witness_OutsideARunOnlyStartChangesTheDecoder :
    (given State.reset [.write 0 7#32]).run ≠ .running ∧
    (given State.reset [.write 0 7#32]).host.head? ≠ some .blockReset ∧
    (∀ v, (given State.reset [.write 0 7#32]).host.head? = some (.write 9 v) → v.getLsbD 0 = false) ∧
    step (given State.reset [.write 0 7#32]) =
      .next { State.reset with cfg := { RunConfig.atReset with chanMap := 7#32 } } := by
  refine ⟨by decide, by decide, ?_, rfl⟩
  intro v h
  cases h
theorem witness_RunsEndOnlyByTheRules :
    (given (limited 1#32 { fresh with heldByte := some 0#8 }) [.write 10 0#32]).run = .running ∧
    step (given (limited 1#32 { fresh with heldByte := some 0#8 }) [.write 10 0#32]) =
      .next { limited 1#32 fresh with idx := 1#64, run := .done, limitReached := true } ∧
    (given fresh [.write 9 2#32]).run = .running ∧
    step (given fresh [.write 9 2#32]) = .next { fresh with run := .done, empty := true } := ⟨rfl, rfl, rfl, rfl⟩
theorem witness_ErrorsAreRaisedOnlyByTheirOperations :
    (after (exec .startBadMap badMap) State.err = some .channelMap ∧ badMap.err = .none) ∧
    (after (exec .endOfStreamTruncated { fresh with heldByte := some 1#8 }) State.err = some .truncatedStream ∧
      fresh.err = .none) := by decide
theorem witness_AddressesComeTwoSamplesAfterTheEdge :
    after (exec (.sampleStep 0xABC8#16) (armed 2#64 4#64))
      (fun t => decide (Event.addressDecoded 4#64 0xABC#12 ∈ t.events)) = some true ∧
    Event.addressDecoded 4#64 0xABC#12 ∉ (armed 2#64 4#64).events := by decide
theorem witness_NoResetNoAddress :
    (given { fresh with heldByte := some 0x02#8 } [.write 10 0#32]).Inv ∧
    step (given { fresh with heldByte := some 0x02#8 } [.write 10 0#32]) =
      .next { fresh with idx := 1#64, prevClockHigh := true, pendingRiseIndex := some 0#64, events := [.clockEdge 0#64] } ∧
    fresh.run ≠ .idle ∧ fresh.pastReset = false := ⟨by decide, rfl, by decide, by decide⟩
theorem witness_StartForgetsTheLastRun :
    (given State.reset [.write 9 1#32]).run ≠ .running ∧
    (given { armed 0#64 9#64 with run := .done, cfgRun := { RunConfig.atReset with ctrl := 0#32 } } [.write 9 1#32]).run ≠
      .running ∧
    (given State.reset [.write 9 1#32]).cfg =
      (given { armed 0#64 9#64 with run := .done, cfgRun := { RunConfig.atReset with ctrl := 0#32 } } [.write 9 1#32]).cfg ∧
    (1#32).getLsbD 0 = true ∧ legalMap State.reset.cfg.chanMap = true := by decide
theorem witness_DecodeRunsEndAsTheStreamSays :
    legalMap RunConfig.atReset.chanMap = true ∧
    after (decodeRun RunConfig.atReset [0x01#8, 0x00#8, 0x7F#8] State.reset) State.statusWord = some 0x00000047#32 ∧
    after (decodeRun { RunConfig.atReset with ctrl := 2#32, limitLo := 1#32 } [0x01#8, 0x00#8, 0x7F#8] State.reset)
      State.statusWord = some 0x00000062#32 := ⟨by decide, rfl, rfl⟩
theorem witness_IllegalMapsDecodeNothing : legalMap badMap.cfg.chanMap = false := by decide

end Sys2Proof.Tests
end

section
/-! # The family 10_state.md: proofs

First the host's port as plain functions of the state (what a CMD write, a BYTE_IN write and a configuration write
leave, and from them what any interaction leaves), then the obligations that follow from them. -/

namespace Sys2Proof.Machine

/-! ## The host's port as functions of the state -/

/-- What the END_OF_STREAM row of the state leaves, 44_run_control.md R217 to R219. -/
def State.endStream (s : State) : State :=
  if s.heldByte.isSome then s.dropByte.raiseError .truncatedStream
  else if s.idx = 0#64 then s.finishEmpty
  else s.finishOk

/-- What the START row of the state leaves, 44_run_control.md R215. -/
def State.startRun (s : State) : State :=
  if legalMap s.cfg.chanMap then s.beginRun else s.initRun.raiseError .channelMap

/-- The EndOfStream half of a CMD write, 10_state.md R49. -/
def State.cmdEnd (s : State) (v : Word) : State := if v.getLsbD 1 && s.isRunning then s.endStream else s

/-- The Start half of a CMD write, 10_state.md R49. -/
def State.cmdStart (s : State) (v : Word) : State := if v.getLsbD 0 && !s.isRunning then s.startRun else s

/-- A write to a register that is neither CMD nor BYTE_IN, 44_run_control.md R222, R231. -/
def State.configure (s : State) (r : Nat) (v : Word) : State :=
  if r ≤ regLimitHi ∧ s.isRunning = false then s.putConfig r v else s

theorem runStage_endOfStream_eq (s : State) (v : Word) :
    runStage .endOfStream (.regWrite regCmd v) s = .next (s.cmdEnd v) := by
  rw [runStage_endOfStream, State.cmdEnd]
  split
  · next h =>
    have hr : s.isRunning = true := (Bool.and_eq_true_iff.mp h).2
    by_cases hb : s.heldByte.isSome = true <;> by_cases hi : s.idx = 0#64 <;>
      simp [hr, hb, hi, State.endStream, exec, execEndOfStreamTruncated, execEndOfStreamEmpty, execEndOfStreamOk]
  · rfl

theorem runStage_start_eq (s : State) (v : Word) :
    runStage .start (.regWrite regCmd v) s = .next (s.cmdStart v) := by
  rw [runStage_start, State.cmdStart]
  split
  · next h =>
    have hr : (!s.isRunning) = true := (Bool.and_eq_true_iff.mp h).2
    by_cases hm : legalMap s.cfg.chanMap = true <;>
      simp [hr, hm, State.startRun, exec, execStart, execStartBadMap]
  · rfl

theorem writeReg_cmd_eq (s : State) (v : Word) : writeReg regCmd v s = .next ((s.cmdEnd v).cmdStart v) := by
  rw [writeReg_cmd, runStage_endOfStream_eq, andThen_next, runStage_start_eq]

theorem writeReg_other_eq {r : Nat} (s : State) (v : Word) (hc : r ≠ regCmd) (hb : r ≠ regByteIn) :
    writeReg r v s = .next (s.configure r v) := by
  rw [writeReg_other v s hc hb, runStage_config, State.configure]
  by_cases h : r ≤ regLimitHi ∧ s.isRunning = false
  · simp [h, exec, execConfigWrite]
  · simp [h]

/-- What a BYTE_IN write leaves: nothing changed outside a run, the byte held, or the assembled sample processed. -/
inductive ByteInResult (s : State) (v : Word) : State → Prop
  | ignored (h : s.run ≠ .running) : ByteInResult s v s
  | held (h : s.run = .running) (hb : s.heldByte = none) : ByteInResult s v (s.holdByte (v.setWidth 8))
  | sample (lo : Byte) (h : s.run = .running) (hb : s.heldByte = some lo) (hi : s.idx.toNat ≠ maxSamples) :
      ByteInResult s v (s.dropByte.counted (assemble (v.setWidth 8) lo)).stopChecks

theorem writeReg_byteIn_result {s t : State} {v : Word} (h : writeReg regByteIn v s = .next t) :
    ByteInResult s v t := by
  rw [writeReg_byteIn, runStage_byteIn] at h
  by_cases hr : s.run = .running
  · have hrun : s.isRunning = true := isRunning_iff.mpr hr
    cases hb : s.heldByte with
    | none =>
      simp only [hrun, hb, exec, execByteLow] at h
      cases h
      exact .held hr hb
    | some lo =>
      simp only [hrun, hb, exec, execByteHigh, Option.isSome_some, if_true, sampleStep_eq_next] at h
      obtain ⟨hi, rfl⟩ := h
      exact .sample lo hr hb hi
  · rw [if_neg (by simpa [State.isRunning] using hr)] at h
    cases h
    exact .ignored hr

/-- What a host interaction leaves, by its kind. -/
inductive PerformResult (s : State) : HostAccess → State → Prop
  | read (r : Nat) : PerformResult s (.read r) (s.answer (.word (s.readReg r)))
  | readEvents : PerformResult s .readEvents (s.answer (.events s.eventsSeen))
  | blockReset : PerformResult s .blockReset s.blockReset
  | cmd (v : Word) : PerformResult s (.write regCmd v) ((s.cmdEnd v).cmdStart v)
  | byteIn (v : Word) {t : State} (h : ByteInResult s v t) : PerformResult s (.write regByteIn v) t
  | config (r : Nat) (v : Word) (hc : r ≠ regCmd) (hb : r ≠ regByteIn) :
      PerformResult s (.write r v) (s.configure r v)

theorem perform_result {s t : State} {a : HostAccess} (h : perform a s = .next t) : PerformResult s a t := by
  cases a with
  | read r => cases h; exact .read r
  | readEvents => cases h; exact .readEvents
  | blockReset => cases h; exact .blockReset
  | write r v =>
    by_cases hc : r = regCmd
    · subst hc
      rw [perform, writeReg_cmd_eq] at h
      cases h
      exact .cmd v
    · by_cases hb : r = regByteIn
      · subst hb
        exact .byteIn v (writeReg_byteIn_result h)
      · rw [perform, writeReg_other_eq s v hc hb] at h
        cases h
        exact .config r v hc hb

/-- The state with its next host interaction taken. -/
def State.popHost (s : State) : State := { s with host := s.host.tail }

@[simp] theorem popHost_pastReset (s : State) : s.popHost.pastReset = s.pastReset := rfl
@[simp] theorem popHost_idx (s : State) : s.popHost.idx = s.idx := rfl
@[simp] theorem popHost_run (s : State) : s.popHost.run = s.run := rfl
@[simp] theorem popHost_cfg (s : State) : s.popHost.cfg = s.cfg := rfl
@[simp] theorem popHost_cfgRun (s : State) : s.popHost.cfgRun = s.cfgRun := rfl
@[simp] theorem popHost_events (s : State) : s.popHost.events = s.events := rfl

theorem popHost_of_cons {s : State} {a : HostAccess} {rest : List HostAccess} (h : s.host = a :: rest) :
    s.popHost = { s with host := rest } := by rw [State.popHost, h]; rfl

/-- What a step leaves: the same state where no interaction is to come, else what the next interaction leaves. -/
theorem step_result {s t : State} (h : step s = .next t) :
    (s.host = [] ∧ t = s) ∨ ∃ a, s.host.head? = some a ∧ PerformResult s.popHost a t := by
  obtain hnil | ⟨a, rest, hhost, hperf⟩ := step_cases h
  · exact .inl hnil
  · rw [← popHost_of_cons hhost] at hperf
    exact .inr ⟨a, by rw [hhost]; rfl, perform_result hperf⟩

theorem step_write_cmd {s : State} {v : Word} {rest : List HostAccess} (h : s.host = .write regCmd v :: rest) :
    step s = .next ((s.popHost.cmdEnd v).cmdStart v) := by
  rw [step_cons h, ← popHost_of_cons h, perform, writeReg_cmd_eq]

/-! ## What the halves of a CMD write and a sample leave unchanged -/

@[simp] theorem endStream_pastReset (s : State) : s.endStream.pastReset = s.pastReset := by
  simp only [State.endStream, apply_ite State.pastReset]; simp
@[simp] theorem endStream_idx (s : State) : s.endStream.idx = s.idx := by
  simp only [State.endStream, apply_ite State.idx]; simp
@[simp] theorem endStream_events (s : State) : s.endStream.events = s.events := by
  simp only [State.endStream, apply_ite State.events]; simp
@[simp] theorem endStream_cfg (s : State) : s.endStream.cfg = s.cfg := by
  simp only [State.endStream, apply_ite State.cfg]; simp
@[simp] theorem endStream_cfgRun (s : State) : s.endStream.cfgRun = s.cfgRun := by
  simp only [State.endStream, apply_ite State.cfgRun]; simp

theorem cmdEnd_of_clear {s : State} {v : Word} (h : v.getLsbD 1 = false) : s.cmdEnd v = s := by
  rw [State.cmdEnd, h]; rfl
theorem cmdStart_of_clear {s : State} {v : Word} (h : v.getLsbD 0 = false) : s.cmdStart v = s := by
  rw [State.cmdStart, h]; rfl
theorem cmdEnd_of_not_running {s : State} (v : Word) (h : s.run ≠ .running) : s.cmdEnd v = s := by
  simp [State.cmdEnd, isRunning_eq_false.mpr h]
theorem cmdStart_of_running {s : State} (v : Word) (h : s.run = .running) : s.cmdStart v = s := by
  simp [State.cmdStart, isRunning_iff.mpr h]

@[simp] theorem cmdEnd_pastReset (s : State) (v : Word) : (s.cmdEnd v).pastReset = s.pastReset := by
  simp only [State.cmdEnd, apply_ite State.pastReset]; simp
@[simp] theorem cmdEnd_idx (s : State) (v : Word) : (s.cmdEnd v).idx = s.idx := by
  simp only [State.cmdEnd, apply_ite State.idx]; simp
@[simp] theorem cmdEnd_events (s : State) (v : Word) : (s.cmdEnd v).events = s.events := by
  simp only [State.cmdEnd, apply_ite State.events]; simp
@[simp] theorem cmdEnd_cfg (s : State) (v : Word) : (s.cmdEnd v).cfg = s.cfg := by
  simp only [State.cmdEnd, apply_ite State.cfg]; simp
@[simp] theorem cmdEnd_cfgRun (s : State) (v : Word) : (s.cmdEnd v).cfgRun = s.cfgRun := by
  simp only [State.cmdEnd, apply_ite State.cfgRun]; simp

@[simp] theorem stopChecks_pastReset (s : State) : s.stopChecks.pastReset = s.pastReset := by rw [stopChecks_eq]
@[simp] theorem stopChecks_prevClockHigh (s : State) : s.stopChecks.prevClockHigh = s.prevClockHigh := by
  rw [stopChecks_eq]
@[simp] theorem stopChecks_pendingRiseIndex (s : State) : s.stopChecks.pendingRiseIndex = s.pendingRiseIndex := by
  rw [stopChecks_eq]
@[simp] theorem stopChecks_idx (s : State) : s.stopChecks.idx = s.idx := by rw [stopChecks_eq]
@[simp] theorem stopChecks_heldByte (s : State) : s.stopChecks.heldByte = s.heldByte := by rw [stopChecks_eq]
@[simp] theorem stopChecks_err (s : State) : s.stopChecks.err = s.err := by rw [stopChecks_eq]
@[simp] theorem stopChecks_empty (s : State) : s.stopChecks.empty = s.empty := by rw [stopChecks_eq]
@[simp] theorem stopChecks_cfg (s : State) : s.stopChecks.cfg = s.cfg := by rw [stopChecks_eq]
@[simp] theorem stopChecks_cfgRun (s : State) : s.stopChecks.cfgRun = s.cfgRun := by rw [stopChecks_eq]
@[simp] theorem stopChecks_events (s : State) : s.stopChecks.events = s.events := by rw [stopChecks_eq]

/-- The first stop check of a run is the limit check alone: index 0 is not the last one. -/
theorem beginRun_eq (s : State) : s.beginRun = s.initRun.latchRun.stopChecks := by
  have hm : s.initRun.latchRun.idxMax = false := by
    rw [State.idxMax, State.latchRun_idx, State.initRun_idx]
    decide
  simp [State.beginRun, State.stopChecks, hm]

@[simp] theorem startRun_cfg (s : State) : s.startRun.cfg = s.cfg := by
  simp only [State.startRun, beginRun_eq, apply_ite State.cfg]; simp

theorem startRun_cfgRun (s : State) : s.startRun.cfgRun = s.cfgRun ∨ s.startRun.cfgRun = s.cfg := by
  rw [State.startRun]
  split
  · right; simp [beginRun_eq]
  · left; rfl

/-! ## The events of one sample -/

/-- The events sample `i` appends, in the order of 44_run_control.md R211, by which of its three rules emit. -/
def sampleEvents (i : Index) (a : Addr) (reset latch edge : Bool) : List Event :=
  (if reset then [.resetObserved i] else []) ++
    ((if latch then [.addressDecoded i a] else []) ++ (if edge then [.clockEdge i] else []))

/-- The events the sample appends in this state. -/
def State.newEvents (s : State) (smp : Sample) : List Event :=
  sampleEvents s.idx (s.address smp) (s.resetDetected smp)
    ((s.pastReset || s.resetSet smp) && s.windowDue && s.selected smp)
    (s.edgeRises smp && (s.cfgRun.emitClockEdges &&
      (!s.cfgRun.edgeRequiresReset || (s.pastReset || s.resetSet smp))))

@[simp] theorem track_pastReset (s : State) (smp : Sample) :
    (s.track smp).pastReset = (s.pastReset || s.resetSet smp) := by rw [track_eq]
@[simp] theorem track_pendingRiseIndex (s : State) (smp : Sample) :
    (s.track smp).pendingRiseIndex =
      if s.edgeRises smp then some s.idx
      else if (s.pastReset || s.resetSet smp) && s.windowDue then none
      else s.pendingRiseIndex := by rw [track_eq]
@[simp] theorem track_events (s : State) (smp : Sample) : (s.track smp).events = s.events ++ s.newEvents smp := by
  rw [track_eq]; rfl

@[simp] theorem counted_idx (s : State) (smp : Sample) : (s.counted smp).idx = BitVec.ofNat 64 (s.idx.toNat + 1) := rfl
@[simp] theorem counted_pastReset (s : State) (smp : Sample) :
    (s.counted smp).pastReset = (s.track smp).pastReset := rfl
@[simp] theorem counted_pendingRiseIndex (s : State) (smp : Sample) :
    (s.counted smp).pendingRiseIndex = (s.track smp).pendingRiseIndex := rfl
@[simp] theorem counted_events (s : State) (smp : Sample) : (s.counted smp).events = (s.track smp).events := rfl
@[simp] theorem counted_heldByte (s : State) (smp : Sample) : (s.counted smp).heldByte = s.heldByte :=
  track_heldByte s smp
@[simp] theorem counted_run (s : State) (smp : Sample) : (s.counted smp).run = s.run := track_run s smp
@[simp] theorem counted_err (s : State) (smp : Sample) : (s.counted smp).err = s.err := track_err s smp
@[simp] theorem counted_empty (s : State) (smp : Sample) : (s.counted smp).empty = s.empty := track_empty s smp
@[simp] theorem counted_limitReached (s : State) (smp : Sample) : (s.counted smp).limitReached = s.limitReached :=
  track_limitReached s smp
@[simp] theorem counted_cfg (s : State) (smp : Sample) : (s.counted smp).cfg = s.cfg := track_cfg s smp
@[simp] theorem counted_cfgRun (s : State) (smp : Sample) : (s.counted smp).cfgRun = s.cfgRun := track_cfgRun s smp

/-! ## O2: decode of encode -/

theorem encodeRoundTrip : ∀ i : Instr, Laws.EncodeRoundTrip.Statement i
  | .byteLow b => Laws.EncodeRoundTrip.byteLow b
  | .byteHigh b => Laws.EncodeRoundTrip.byteHigh b
  | .sampleStep smp => Laws.EncodeRoundTrip.sampleStep smp
  | .resetDetect smp => Laws.EncodeRoundTrip.resetDetect smp
  | .resetHold smp => Laws.EncodeRoundTrip.resetHold smp
  | .latchDecode smp => Laws.EncodeRoundTrip.latchDecode smp
  | .latchReject smp => Laws.EncodeRoundTrip.latchReject smp
  | .latchIdle smp => Laws.EncodeRoundTrip.latchIdle smp
  | .edgeRise smp => Laws.EncodeRoundTrip.edgeRise smp
  | .edgeNone smp => Laws.EncodeRoundTrip.edgeNone smp
  | .clockUpdate smp => Laws.EncodeRoundTrip.clockUpdate smp
  | .indexAdvance => Laws.EncodeRoundTrip.indexAdvance
  | .limitStop => Laws.EncodeRoundTrip.limitStop
  | .indexExhaust => Laws.EncodeRoundTrip.indexExhaust
  | .start => Laws.EncodeRoundTrip.start
  | .startBadMap => Laws.EncodeRoundTrip.startBadMap
  | .endOfStreamTruncated => Laws.EncodeRoundTrip.endOfStreamTruncated
  | .endOfStreamEmpty => Laws.EncodeRoundTrip.endOfStreamEmpty
  | .endOfStreamOk => Laws.EncodeRoundTrip.endOfStreamOk
  | .configWrite r v => Laws.EncodeRoundTrip.configWrite r v

/-- Settles O2: the round trip of each operation, put together. -/
theorem decodeOfEncodeIsTheOperation : Obligations.DecodeOfEncodeIsTheOperation :=
  fun i c hw ht => encodeRoundTrip i hw c ht

/-! ## O1, O46, O47: facts about written-out values -/

/-- Settles O1, by running the decoder on the written-out carriers. -/
theorem writtenWordsSelectTheirOperations : Obligations.WrittenWordsSelectTheirOperations := by
  unfold Obligations.WrittenWordsSelectTheirOperations
  decide

/-- Settles O46, by reading the registers of the reset state. -/
theorem resetStateSpecifiedValues : Obligations.ResetStateSpecifiedValues := by
  unfold Obligations.ResetStateSpecifiedValues
  decide

theorem reservedClear_atReset : RunConfig.atReset.chanMap.extractLsb' 24 8 = 0#8 ∧
    RunConfig.atReset.ctrl.extractLsb' 3 29 = 0#29 := by decide

/-- An idle block with the reset configuration and no recorded outcome meets the invariant, whatever its decoder
state: the other clauses speak of started blocks. -/
theorem inv_of_idle {s : State} (hrun : s.run = .idle) (hcfg : s.cfg = RunConfig.atReset) (herr : s.err = .none)
    (hempty : s.empty = false) (hlim : s.limitReached = false) : s.Inv := by
  refine ⟨by rw [State.ReservedClear, hcfg]; exact reservedClear_atReset, ?_, ?_, ?_, ?_⟩
  · simp [State.RunOk, hrun]
  · simp [State.StatusOk, hrun, herr, hempty, hlim]
  · simp [State.TrackOk, hrun]
  · simp [State.EventsOk, hrun]

/-- Settles O47: the reset state is idle. -/
theorem resetMeetsTheInvariant : Obligations.ResetMeetsTheInvariant := inv_of_idle rfl rfl rfl rfl rfl

/-! ## O39: the two halves of a CMD write -/

theorem cmdEnd_congr (s : State) {v w : Word} (h : v.getLsbD 1 = w.getLsbD 1) : s.cmdEnd v = s.cmdEnd w := by
  rw [State.cmdEnd, h, State.cmdEnd]

theorem cmdStart_congr (s : State) {v w : Word} (h : v.getLsbD 0 = w.getLsbD 0) : s.cmdStart v = s.cmdStart w := by
  rw [State.cmdStart, h, State.cmdStart]

/-- Settles O39: both halves of a CMD write read one bit each, so a mask that keeps the bit changes nothing. -/
theorem cmdRunsEndOfStreamThenStart : Obligations.CmdRunsEndOfStreamThenStart := by
  intro s v rest hs
  have hEnd : (v &&& 0x00000002#32).getLsbD 1 = v.getLsbD 1 := by simp
  have hStart : (v &&& 0x00000001#32).getLsbD 0 = v.getLsbD 0 := by simp
  have hstep : step s = .next ((s.popHost.cmdEnd v).cmdStart v) := step_write_cmd hs
  rw [← popHost_of_cons hs]
  refine ⟨s.popHost.cmdEnd v, ?_, cmdEnd_of_clear, ?_, fun h => ?_⟩
  · exact (runStage_endOfStream_eq _ _).trans (by rw [cmdEnd_congr _ hEnd])
  · rw [hstep, ← cmdStart_congr _ hStart]
    exact (runStage_start_eq _ _).symm
  · rw [hstep, cmdStart_of_clear h]

/-! ## O43, O44: what the host reads -/

theorem readReg_status (s : State) : s.readReg 4 = s.statusWord := rfl

/-- The fields of a word put together like STATUS, 10_state.md R46. -/
theorem statusLayout_fields (f : BitVec 6) (e r : BitVec 2) :
    (0#22 ++ f ++ e ++ r).extractLsb' 0 2 = r ∧ (0#22 ++ f ++ e ++ r).extractLsb' 2 2 = e ∧
    (0#22 ++ f ++ e ++ r).extractLsb' 4 6 = f ∧ (0#22 ++ f ++ e ++ r).extractLsb' 10 22 = 0#22 := by
  have past {n : Nat} (x : BitVec n) (y : BitVec 2) (i k : Nat) :
      (x ++ y).extractLsb' (2 + i) k = x.extractLsb' i k := by
    rw [BitVec.extractLsb'_append_eq_of_le (by omega), Nat.add_sub_cancel_left]
  refine ⟨BitVec.extractLsb'_append_eq_right, ?_, ?_, ?_⟩
  · exact (past _ r 0 2).trans BitVec.extractLsb'_append_eq_right
  · exact (past _ r 2 6).trans ((past _ e 0 6).trans BitVec.extractLsb'_append_eq_right)
  · exact (past _ r 8 22).trans ((past _ e 6 22).trans BitVec.extractLsb'_append_eq_left)

/-- The bits of a six-bit word put together like STATUS 9:4, 10_state.md R46. -/
theorem flagLayout_bits : ∀ b5 b4 b3 b2 b1 b0 : Bool,
    let w : BitVec 6 := BitVec.ofBool b5 ++ BitVec.ofBool b4 ++ BitVec.ofBool b3 ++ BitVec.ofBool b2 ++
      BitVec.ofBool b1 ++ BitVec.ofBool b0
    w.getLsbD 0 = b0 ∧ w.getLsbD 1 = b1 ∧ w.getLsbD 2 = b2 ∧ w.getLsbD 3 = b3 ∧ w.getLsbD 4 = b4 ∧
      w.getLsbD 5 = b5 := by
  decide

theorem statusFlags_of_started {s : State} (h : s.run ≠ .idle) :
    s.statusFlags.getLsbD 0 = s.empty ∧ s.statusFlags.getLsbD 1 = s.limitReached ∧
    s.statusFlags.getLsbD 2 = s.pastReset ∧ s.statusFlags.getLsbD 3 = s.prevClockHigh ∧
    s.statusFlags.getLsbD 4 = s.pendingRiseIndex.isSome ∧ s.statusFlags.getLsbD 5 = s.heldByte.isSome := by
  have hu : s.unstarted = false := by simp [State.unstarted, h]
  rw [State.statusFlags, hu]
  exact flagLayout_bits _ _ _ _ _ _

theorem statusWord_flag (s : State) {i : Nat} (hi : i < 6) :
    s.statusWord.getLsbD (4 + i) = s.statusFlags.getLsbD i := by
  obtain ⟨-, -, hflags, -⟩ := statusLayout_fields s.statusFlags (errBits s.err) (runBits s.run)
  rw [← hflags, BitVec.getLsbD_extractLsb', decide_eq_true hi, Bool.true_and]
  rfl

theorem statusFlags_of_idle {s : State} (h : s.run = .idle) : s.statusFlags = 0#6 := by
  simp [State.statusFlags, State.unstarted, h]

/-- Settles O43, from the layout of STATUS and the order of its flag bits. -/
theorem statusFields : Obligations.StatusFields := by
  intro s
  obtain ⟨hstate, herr, hflags, hzero⟩ := statusLayout_fields s.statusFlags (errBits s.err) (runBits s.run)
  refine ⟨hstate.trans ?_, herr.trans ?_, hzero,
    fun hidle => ⟨hflags.trans (statusFlags_of_idle hidle), fun hnone => ?_⟩, fun hstarted => ?_⟩
  · cases s.run <;> rfl
  · cases s.err <;> rfl
  · rw [readReg_status, State.statusWord, statusFlags_of_idle hidle, hidle, hnone]
    rfl
  · obtain ⟨he, hl, hp, hc, hr, hb⟩ := statusFlags_of_started hstarted
    rw [readReg_status]
    exact ⟨(statusWord_flag s (i := 0) (by decide)).trans he, (statusWord_flag s (i := 1) (by decide)).trans hl,
      (statusWord_flag s (i := 2) (by decide)).trans hp, (statusWord_flag s (i := 3) (by decide)).trans hc,
      (statusWord_flag s (i := 4) (by decide)).trans hr, (statusWord_flag s (i := 5) (by decide)).trans hb⟩

/-- An index read as two registers, high half first, is the index (10_state.md R47, R48). -/
theorem highHalf_append_lowHalf (x : Index) : x.extractLsb' 32 32 ++ x.extractLsb' 0 32 = x :=
  (BitVec.extractLsb'_append_extractLsb'_eq_extractLsb' rfl).trans BitVec.extractLsb'_eq_self

theorem count_of_started {s : State} (h : s.run ≠ .idle) : s.count = s.idx := by
  simp [State.count, State.unstarted, h]
theorem pendingCount_of_started {s : State} (h : s.run ≠ .idle) :
    s.pendingCount = s.pendingRiseIndex.getD 0#64 := by simp [State.pendingCount, State.unstarted, h]
theorem readReg_of_ge {s : State} {r : Nat} (h : 9 ≤ r) : s.readReg r = 0#32 := by
  unfold State.readReg regChanMap regCtrl regLimitLo regLimitHi regStatus regCountLo regCountHi regPendingLo
    regPendingHi
  repeat rw [if_neg (by omega)]

/-- Settles O44: each index is its two halves, and PENDING_VALID is STATUS bit 8. -/
theorem registerReadback : Obligations.RegisterReadback := by
  intro s
  have hcount : s.readReg 6 ++ s.readReg 5 = s.count := highHalf_append_lowHalf _
  have hpending : s.readReg 8 ++ s.readReg 7 = s.pendingCount := highHalf_append_lowHalf _
  refine ⟨fun h => hcount.trans (count_of_started h), fun h => ?_, rfl, rfl, rfl, rfl, fun r => readReg_of_ge⟩
  obtain ⟨-, -, -, -, hvalid, -⟩ := statusFlags_of_started h
  have hbit : (s.readReg 4).getLsbD 8 = s.pendingRiseIndex.isSome :=
    (statusWord_flag s (i := 4) (by decide)).trans hvalid
  rw [hpending, hbit, pendingCount_of_started h]
  exact ⟨fun n hn => by simp [hn], fun hn => by simp [hn]⟩

/-! ## O50, O51: what an interaction may change during a run -/

theorem configure_of_running {s : State} (r : Nat) (v : Word) (h : s.run = .running) : s.configure r v = s := by
  simp [State.configure, isRunning_iff.mpr h]

theorem byteIn_keeps_config {s t : State} {v : Word} (h : ByteInResult s v t) :
    t.cfg = s.cfg ∧ t.cfgRun = s.cfgRun := by
  cases h with
  | ignored => exact ⟨rfl, rfl⟩
  | held => exact ⟨rfl, rfl⟩
  | sample => simp

theorem byteIn_grows {s t : State} {v : Word} (h : ByteInResult s v t) :
    (s.pastReset = true → t.pastReset = true) ∧ s.events <+: t.events ∧ s.idx.toNat ≤ t.idx.toNat := by
  cases h with
  | ignored => exact ⟨id, List.prefix_rfl, le_rfl⟩
  | held => exact ⟨id, List.prefix_rfl, le_rfl⟩
  | sample lo hr hb hi =>
    refine ⟨fun hp => by simp [hp], by simp, ?_⟩
    rw [stopChecks_idx, counted_idx, State.dropByte_idx, succ_idx_toNat hi]
    exact Nat.le_succ _

/-- A CMD write during a run that does not both end it and start another keeps its decoder state. -/
theorem cmd_of_one_bit {s : State} {v : Word} (hr : s.run = .running)
    (hv : v.getLsbD 0 = false ∨ v.getLsbD 1 = false) :
    (s.cmdEnd v).cmdStart v = s.cmdEnd v := by
  obtain h0 | h1 := hv
  · exact cmdStart_of_clear h0
  · rw [cmdEnd_of_clear h1, cmdStart_of_running v hr]

/-- Settles O50, by the kind of the interaction: only a CMD write with both command bits starts another run. -/
theorem pastResetAndEventsOnlyGrow : Obligations.PastResetAndEventsOnlyGrow := by
  intro s t hrun hreset hcmd hstep
  obtain ⟨-, rfl⟩ | ⟨a, hhead, hperf⟩ := step_result hstep
  · exact ⟨id, List.prefix_rfl, le_rfl⟩
  cases hperf with
  | read r => exact ⟨id, List.prefix_rfl, le_rfl⟩
  | readEvents => exact ⟨id, List.prefix_rfl, le_rfl⟩
  | blockReset => exact absurd hhead hreset
  | cmd v =>
    rw [cmd_of_one_bit (s := s.popHost) hrun (hcmd v hhead)]
    simp
  | byteIn v h => exact byteIn_grows (s := s.popHost) h
  | config r v =>
    rw [configure_of_running (s := s.popHost) r v hrun]
    exact ⟨id, List.prefix_rfl, le_rfl⟩

@[simp] theorem cmdStart_cfg (s : State) (v : Word) : (s.cmdStart v).cfg = s.cfg := by
  simp only [State.cmdStart, apply_ite State.cfg]; simp

theorem cmdStart_cfgRun (s : State) (v : Word) :
    (s.cmdStart v).cfgRun = s.cfgRun ∨ (s.cmdStart v).cfgRun = s.cfg := by
  rw [State.cmdStart]
  split
  · exact startRun_cfgRun s
  · exact .inl rfl

/-- A CMD write during a run latches a configuration only when it ends the run and starts another. -/
theorem cmd_cfgRun {s : State} (v : Word) (hr : s.run = .running) :
    ((s.cmdEnd v).cmdStart v).cfgRun = s.cfgRun ∨
      v.getLsbD 0 = true ∧ v.getLsbD 1 = true ∧ ((s.cmdEnd v).cmdStart v).cfgRun = s.cfg := by
  by_cases hv : v.getLsbD 0 = false ∨ v.getLsbD 1 = false
  · rw [cmd_of_one_bit hr hv]
    exact .inl (cmdEnd_cfgRun s v)
  · obtain ⟨h0, h1⟩ := not_or.mp hv
    obtain h | h := cmdStart_cfgRun (s.cmdEnd v) v
    · exact .inl (h.trans (cmdEnd_cfgRun s v))
    · exact .inr ⟨Bool.eq_true_of_not_eq_false h0, Bool.eq_true_of_not_eq_false h1, h.trans (cmdEnd_cfg s v)⟩

/-- Settles O51, by the kind of the interaction. -/
theorem configurationIsFixedDuringARun : Obligations.ConfigurationIsFixedDuringARun := by
  intro s t hrun hreset hstep
  obtain ⟨-, rfl⟩ | ⟨a, hhead, hperf⟩ := step_result hstep
  · exact ⟨rfl, .inl rfl⟩
  cases hperf with
  | read r => exact ⟨rfl, .inl rfl⟩
  | readEvents => exact ⟨rfl, .inl rfl⟩
  | blockReset => exact absurd hhead hreset
  | cmd v =>
    refine ⟨by simp, ?_⟩
    obtain h | ⟨h0, h1, h⟩ := cmd_cfgRun (s := s.popHost) v hrun
    · exact .inl h
    · exact .inr ⟨v, hhead, h0, h1, h⟩
  | byteIn v h =>
    obtain ⟨hcfg, hcfgRun⟩ := byteIn_keeps_config h
    exact ⟨hcfg, .inl hcfgRun⟩
  | config r v =>
    rw [configure_of_running (s := s.popHost) r v hrun]
    exact ⟨rfl, .inl rfl⟩

/-! ## O57: a Start forgets the last run -/

theorem startRun_of_legal {s : State} (h : legalMap s.cfg.chanMap = true) :
    s.startRun = s.initRun.latchRun.stopChecks := by
  rw [State.startRun, if_pos h, beginRun_eq]

theorem startRun_of_illegal {s : State} (h : legalMap s.cfg.chanMap = false) :
    s.startRun = s.initRun.raiseError .channelMap := by
  rw [State.startRun, h]; rfl

/-- The stop checks read and write fields that the initialisation of a run has set from the configuration alone. -/
theorem startRun_sameBlock {s t : State} (h : s.cfg = t.cfg) : State.SameBlock s.startRun t.startRun := by
  cases hm : legalMap s.cfg.chanMap with
  | false =>
    rw [startRun_of_illegal hm, startRun_of_illegal (h ▸ hm)]
    simp [State.SameBlock, h]
  | true =>
    have hlimit : s.initRun.latchRun.limitHit = t.initRun.latchRun.limitHit := limitHit_congr h rfl
    have hmax : s.initRun.latchRun.idxMax = t.initRun.latchRun.idxMax := rfl
    rw [startRun_of_legal hm, startRun_of_legal (h ▸ hm), stopChecks_eq, stopChecks_eq, hlimit, hmax]
    simp [h]

/-- Outside a run a CMD write with the Start bit is a Start alone. -/
theorem step_start {s : State} {v : Word} {rest : List HostAccess} (hr : s.run ≠ .running) (h0 : v.getLsbD 0 = true)
    (hs : s.host = .write regCmd v :: rest) : step s = .next s.popHost.startRun := by
  have hrun : s.popHost.isRunning = false := isRunning_eq_false.mpr hr
  rw [step_write_cmd hs, cmdEnd_of_not_running (s := s.popHost) v hr, State.cmdStart, h0, hrun]
  rfl

/-- Settles O57: both steps are Starts, and a Start reads the configuration registers only. -/
theorem startForgetsTheLastRun : Obligations.StartForgetsTheLastRun := by
  intro s t v rest hs ht hcfg h0 hhs hht
  have hpop : s.popHost.cfg = t.popHost.cfg := hcfg
  refine ⟨_, _, step_start hs h0 hhs, step_start ht h0 hht, startRun_sameBlock hpop, fun hm => ?_⟩
  rw [startRun_of_legal (s := s.popHost) hm, startRun_of_legal (s := t.popHost) (hcfg ▸ hm)]
  simp [hcfg]

/-! ## O48: the events of a sample keep the order of the stream -/

theorem eventRank_le (e : Event) : eventRank e ≤ 2 := by cases e <;> simp [eventRank]

theorem eventKey_lt_of_index_lt {a b : Event} (h : (eventIndex a).toNat < (eventIndex b).toNat) :
    eventKey a < eventKey b := by
  have := eventRank_le a
  unfold eventKey
  omega

theorem eventIndex_of_mem_sampleEvents {i : Index} {a : Addr} {r l c : Bool} {e : Event}
    (h : e ∈ sampleEvents i a r l c) : eventIndex e = i := by
  simp only [sampleEvents, List.mem_append, List.mem_ite_nil_right, List.mem_singleton] at h
  obtain ⟨-, rfl⟩ | ⟨-, rfl⟩ | ⟨-, rfl⟩ := h <;> rfl

theorem pairwise_sampleEvents (i : Index) (a : Addr) (r l c : Bool) :
    (sampleEvents i a r l c).Pairwise (fun x y => eventKey x < eventKey y) := by
  cases r <;> cases l <;> cases c <;> simp [sampleEvents, eventKey, eventIndex, eventRank]

theorem countP_sampleEvents (i : Index) (a : Addr) (r l c : Bool) :
    (sampleEvents i a r l c).countP isResetObserved = r.toNat := by
  cases r <;> cases l <;> cases c <;> rfl

theorem addressesAfterReset_sampleEvents {i : Index} {a : Addr} {r l : Bool} (c : Bool) (h : l = true → r = true) :
    addressesAfterReset (sampleEvents i a r l c) = true := by
  cases r <;> cases l <;> cases c <;> simp_all [sampleEvents, addressesAfterReset]

/-- Appending keeps addresses after the reset when the reset stands in the first part, or the second part orders its
own. -/
theorem addressesAfterReset_append {l m : List Event} (hl : addressesAfterReset l = true)
    (hm : 0 < l.countP isResetObserved ∨ addressesAfterReset m = true) : addressesAfterReset (l ++ m) = true := by
  induction l with
  | nil => exact hm.resolve_left (by simp)
  | cons e es ih =>
    cases e with
    | resetObserved i => rfl
    | addressDecoded i a => cases hl
    | clockEdge i => exact ih hl (by simpa [isResetObserved] using hm)

/-! ### The bound of a run -/

theorem sampleBound_congr {s t : State} (h : s.cfgRun = t.cfgRun) : s.sampleBound = t.sampleBound := by
  simp only [State.sampleBound, h]

theorem sampleBound_le (s : State) : s.sampleBound ≤ maxSamples := by
  unfold State.sampleBound
  split
  · next n _ => exact Nat.le_sub_one_of_lt n.isLt
  · exact le_rfl

/-- The stop checks end a run that has not passed its bound exactly when it has reached it. -/
theorem stops_iff {s : State} (h : s.idx.toNat ≤ s.sampleBound) :
    (s.limitHit || s.idxMax) = true ↔ s.idx.toNat = s.sampleBound := by
  have hmax := sampleBound_le s
  cases hn : s.cfgRun.sampleLimit with
  | none => simp [State.limitHit, State.idxMax, State.sampleBound, hn]
  | some n =>
    simp only [State.sampleBound, hn] at h hmax ⊢
    simp only [State.limitHit, State.idxMax, hn, Bool.or_eq_true, decide_eq_true_eq]
    omega

/-! ### Each operation keeps the invariant -/

theorem flags_of_running {s : State} (h : s.StatusOk) (hr : s.run = .running) :
    s.err = .none ∧ s.empty = false ∧ s.limitReached = false := by
  obtain ⟨herr, hempty, hlim⟩ := h
  simp_all

/-- A run whose stop checks are still to come: it may just have reached its bound. -/
structure State.BeforeStop (s : State) : Prop where
  running : s.run = .running
  reserved : s.ReservedClear
  legal : legalMap s.cfgRun.chanMap = true
  latched : s.cfgRun = s.cfg
  bounded : s.idx.toNat ≤ s.sampleBound
  err : s.err = .none
  empty : s.empty = false
  limitReached : s.limitReached = false
  noByte : s.heldByte = none
  track : s.TrackOk
  events : s.EventsOk

theorem inv_stopChecks {s : State} (h : s.BeforeStop) : s.stopChecks.Inv := by
  have hstarted : s.run ≠ .idle := by simp [h.running]
  obtain ⟨hpending, hzero, -⟩ := h.track hstarted
  have hevents := h.events hstarted
  have hbound : s.stopChecks.sampleBound = s.sampleBound := sampleBound_congr (stopChecks_cfgRun s)
  have hrun : s.stopChecks.run = if s.idx.toNat = s.sampleBound then .done else .running := by
    rw [stopChecks_eq, h.running]
    simp only [stops_iff h.bounded]
  have hlim : s.stopChecks.limitReached = decide (s.idx.toNat = s.sampleBound) := by
    rw [stopChecks_eq, h.limitReached]
    exact Bool.eq_iff_iff.mpr ((stops_iff h.bounded).trans decide_eq_true_iff.symm)
  refine ⟨?_, ?_, ?_, ?_, ?_⟩
  · simpa [State.ReservedClear] using h.reserved
  · intro hr
    have hne : s.idx.toNat ≠ s.sampleBound := by
      intro he
      simp [hrun, he] at hr
    rw [hbound, stopChecks_cfgRun, stopChecks_cfg, stopChecks_idx]
    exact ⟨h.legal, h.latched, lt_of_le_of_ne h.bounded hne⟩
  · refine ⟨?_, by simp [h.empty], ?_⟩
    · rw [stopChecks_err, h.err, hrun]
      split <;> simp
    · rw [hlim, hbound, hrun, stopChecks_idx]
      intro hd
      simp [of_decide_eq_true hd]
  · intro _
    simp only [stopChecks_pendingRiseIndex, stopChecks_idx, stopChecks_pastReset, stopChecks_prevClockHigh,
      stopChecks_heldByte]
    exact ⟨hpending, hzero, fun _ => h.noByte⟩
  · intro _
    simpa using hevents

theorem beforeStop_start {s : State} (hres : s.ReservedClear) (hm : legalMap s.cfg.chanMap = true) :
    s.initRun.latchRun.BeforeStop where
  running := rfl
  reserved := hres
  legal := hm
  latched := rfl
  bounded := Nat.zero_le _
  err := rfl
  empty := rfl
  limitReached := rfl
  noByte := rfl
  track := by simp [State.TrackOk]
  events := by simp [State.EventsOk, addressesAfterReset]

theorem inv_badMap {s : State} (hres : s.ReservedClear) : (s.initRun.raiseError .channelMap).Inv := by
  refine ⟨hres, ?_, ?_, ?_, ?_⟩
  · simp [State.RunOk]
  · simp [State.StatusOk]
  · simp [State.TrackOk]
  · simp [State.EventsOk, addressesAfterReset]

theorem inv_startRun {s : State} (hres : s.ReservedClear) : s.startRun.Inv := by
  cases hm : legalMap s.cfg.chanMap with
  | false => rw [startRun_of_illegal hm]; exact inv_badMap hres
  | true => rw [startRun_of_legal hm]; exact inv_stopChecks (beforeStop_start hres hm)

theorem inv_cmdStart {s : State} (v : Word) (h : s.Inv) : (s.cmdStart v).Inv := by
  obtain ⟨hres, -⟩ := id h
  rw [State.cmdStart]
  split
  · exact inv_startRun hres
  · exact h

/-- A started block at index 0 has no event: every event is of a processed sample. -/
theorem events_eq_nil {s : State} (h : s.EventsOk) (hr : s.run ≠ .idle) (hi : s.idx = 0#64) : s.events = [] := by
  obtain ⟨hbefore, -⟩ := h hr
  refine List.eq_nil_iff_forall_not_mem.mpr fun e he => ?_
  have := hbefore e he
  simp [hi] at this

theorem inv_endStream {s : State} (h : s.Inv) (hr : s.run = .running) : s.endStream.Inv := by
  obtain ⟨hres, -, hstatus, htrack, hevents⟩ := h
  have hstarted : s.run ≠ .idle := by simp [hr]
  obtain ⟨herr, hempty, hlim⟩ := flags_of_running hstatus hr
  obtain ⟨hpending, hzero, -⟩ := htrack hstarted
  have hev := hevents hstarted
  rw [State.endStream]
  split
  · refine ⟨hres, ?_, ?_, fun _ => ⟨hpending, hzero, fun _ => rfl⟩, fun _ => hev⟩
    · simp [State.RunOk]
    · simp [State.StatusOk, hempty, hlim]
  · next hb =>
    have hb' : s.heldByte = none := by simpa using hb
    split
    · next hi =>
      refine ⟨hres, ?_, ?_, fun _ => ⟨hpending, hzero, fun _ => hb'⟩, fun _ => hev⟩
      · simp [State.RunOk]
      · simp [State.StatusOk, herr, hi, hlim, events_eq_nil hevents hstarted hi]
    · refine ⟨hres, ?_, ?_, fun _ => ⟨hpending, hzero, fun _ => hb'⟩, fun _ => hev⟩
      · simp [State.RunOk]
      · simp [State.StatusOk, herr]

theorem inv_cmdEnd {s : State} (v : Word) (h : s.Inv) : (s.cmdEnd v).Inv := by
  rw [State.cmdEnd]
  split
  · next hv => exact inv_endStream h (isRunning_iff.mp (Bool.and_eq_true_iff.mp hv).2)
  · exact h

/-- A configuration write clears the reserved bits of what it writes (10_state.md R41, R42). -/
theorem reservedClear_put {c : RunConfig} (r : Nat) (v : Word)
    (h : c.chanMap.extractLsb' 24 8 = 0#8 ∧ c.ctrl.extractLsb' 3 29 = 0#29) :
    (c.put r v).chanMap.extractLsb' 24 8 = 0#8 ∧ (c.put r v).ctrl.extractLsb' 3 29 = 0#29 := by
  have hmap : (v &&& chanMapMask).extractLsb' 24 8 = 0#8 := by
    rw [BitVec.extractLsb'_and, show chanMapMask.extractLsb' 24 8 = 0#8 by decide, BitVec.and_zero]
  have hctrl : (v &&& ctrlMask).extractLsb' 3 29 = 0#29 := by
    rw [BitVec.extractLsb'_and, show ctrlMask.extractLsb' 3 29 = 0#29 by decide, BitVec.and_zero]
  obtain ⟨hc, hl⟩ := h
  unfold RunConfig.put
  split_ifs
  exacts [⟨hmap, hl⟩, ⟨hc, hctrl⟩, ⟨hc, hl⟩, ⟨hc, hl⟩, ⟨hc, hl⟩]

theorem inv_configure {s : State} (r : Nat) (v : Word) (h : s.Inv) : (s.configure r v).Inv := by
  rw [State.configure]
  split
  · next hc =>
    obtain ⟨-, hidle⟩ := hc
    obtain ⟨hres, -, hstatus, htrack, hevents⟩ := h
    exact ⟨reservedClear_put r v hres, fun hr => absurd hr (isRunning_eq_false.mp hidle), hstatus, htrack, hevents⟩
  · exact h

theorem inv_holdByte {s : State} (b : Byte) (h : s.Inv) (hr : s.run = .running) : (s.holdByte b).Inv := by
  obtain ⟨hres, hrun, hstatus, htrack, hevents⟩ := h
  refine ⟨hres, hrun, hstatus, fun hstarted => ?_, hevents⟩
  obtain ⟨hpending, hzero, -⟩ := htrack hstarted
  exact ⟨hpending, hzero, fun hn => absurd hr hn⟩

/-- The pending edge after a sample is that sample or the edge pending before it, and both indices are below the next
one. -/
theorem trackOk_counted {s : State} (smp : Sample) (hi : s.idx.toNat ≠ maxSamples) (hb : s.heldByte = none)
    (h : (s.pendingRiseIndex.all fun n => decide (n.toNat < s.idx.toNat)) = true) : (s.counted smp).TrackOk := by
  intro _
  have hidx : (s.counted smp).idx.toNat = s.idx.toNat + 1 := succ_idx_toNat hi
  refine ⟨?_, fun h0 => ?_, fun _ => by simp [hb]⟩
  · rw [hidx, counted_pendingRiseIndex, track_pendingRiseIndex]
    split_ifs
    · simp
    · rfl
    · cases hp : s.pendingRiseIndex with
      | none => rfl
      | some n =>
        simp only [hp, Option.all_some, decide_eq_true_eq] at h ⊢
        omega
  · rw [h0] at hidx
    simp at hidx

theorem eventsOk_counted {s : State} (smp : Sample) (hi : s.idx.toNat ≠ maxSamples) (hr : s.run ≠ .idle)
    (h : s.EventsOk) : (s.counted smp).EventsOk := by
  intro _
  obtain ⟨hbefore, hsorted, hcount, haddr⟩ := h hr
  have hidx : (s.counted smp).idx.toNat = s.idx.toNat + 1 := succ_idx_toNat hi
  have hnew : ∀ e ∈ s.newEvents smp, eventIndex e = s.idx := fun e => eventIndex_of_mem_sampleEvents
  rw [hidx, counted_events, counted_pastReset, track_events, track_pastReset]
  refine ⟨fun e he => ?_, ?_, ?_, ?_⟩
  · obtain hold | hnow := List.mem_append.mp he
    · exact Nat.lt_succ_of_lt (hbefore e hold)
    · rw [hnew e hnow]
      exact Nat.lt_succ_self _
  · refine List.pairwise_append.mpr ⟨hsorted, pairwise_sampleEvents .., fun a ha b hb => ?_⟩
    exact eventKey_lt_of_index_lt (by rw [hnew b hb]; exact hbefore a ha)
  · rw [List.countP_append, hcount, State.newEvents, countP_sampleEvents, State.resetDetected]
    cases s.pastReset <;> cases s.resetSet smp <;> rfl
  · refine addressesAfterReset_append haddr ?_
    cases hp : s.pastReset with
    | true => left; simp [hcount, hp]
    | false =>
      right
      refine addressesAfterReset_sampleEvents _ fun hl => ?_
      simp only [State.resetDetected, hp, Bool.false_or, Bool.and_eq_true] at hl ⊢
      obtain ⟨⟨hset, -⟩, -⟩ := hl
      exact ⟨hset, rfl⟩

theorem beforeStop_counted {s : State} (smp : Sample) (h : s.Inv) (hr : s.run = .running) (hb : s.heldByte = none)
    (hi : s.idx.toNat ≠ maxSamples) : (s.counted smp).BeforeStop := by
  obtain ⟨hres, hrun, hstatus, htrack, hevents⟩ := h
  have hstarted : s.run ≠ .idle := by simp [hr]
  obtain ⟨hmap, hcfg, hlt⟩ := hrun hr
  obtain ⟨hpending, -⟩ := htrack hstarted
  obtain ⟨herr, hempty, hlim⟩ := flags_of_running hstatus hr
  exact {
    running := by simp [hr]
    reserved := by simpa [State.ReservedClear] using hres
    legal := by simpa using hmap
    latched := by simpa using hcfg
    bounded := by
      rw [sampleBound_congr (counted_cfgRun s smp), counted_idx, succ_idx_toNat hi]
      exact hlt
    err := by simp [herr]
    empty := by simp [hempty]
    limitReached := by simp [hlim]
    noByte := by simp [hb]
    track := trackOk_counted smp hi hb hpending
    events := eventsOk_counted smp hi hstarted hevents }

theorem inv_dropByte {s : State} (h : s.Inv) : s.dropByte.Inv := by
  obtain ⟨hres, hrun, hstatus, htrack, hevents⟩ := h
  refine ⟨hres, hrun, hstatus, fun hstarted => ?_, hevents⟩
  obtain ⟨hpending, hzero, -⟩ := htrack hstarted
  exact ⟨hpending, hzero, fun _ => rfl⟩

theorem inv_byteIn {s t : State} {v : Word} (h : s.Inv) (ht : ByteInResult s v t) : t.Inv := by
  cases ht with
  | ignored => exact h
  | held hr => exact inv_holdByte _ h hr
  | sample lo hr _ hi => exact inv_stopChecks (beforeStop_counted _ (inv_dropByte h) hr rfl hi)

/-- Settles O48: each interaction keeps the invariant, by its kind. -/
theorem stepKeepsTheInvariant : Obligations.StepKeepsTheInvariant := by
  intro s t h hstep
  obtain ⟨-, rfl⟩ | ⟨a, -, hperf⟩ := step_result hstep
  · exact h
  have hpop : s.popHost.Inv := h
  cases hperf with
  | read r => exact hpop
  | readEvents => exact hpop
  | blockReset => exact inv_of_idle rfl rfl rfl rfl rfl
  | cmd v => exact inv_cmdStart v (inv_cmdEnd v hpop)
  | byteIn v ht => exact inv_byteIn hpop ht
  | config r v => exact inv_configure r v hpop

end Sys2Proof.Machine
end

section
/-! # The family 20_memory.md: proofs

What the host reads does not depend on the interactions still to come, so a step that reads answers from the state it
starts in (20_memory.md R64, 44_run_control.md R230). -/

namespace Sys2Proof.Machine

@[simp] theorem popHost_readReg (s : State) (r : Nat) : s.popHost.readReg r = s.readReg r := rfl
@[simp] theorem popHost_eventsSeen (s : State) : s.popHost.eventsSeen = s.eventsSeen := rfl

theorem step_read {s : State} {r : Nat} {rest : List HostAccess} (h : s.host = .read r :: rest) :
    step s = .next (s.popHost.answer (.word (s.readReg r))) := by
  rw [step_cons h, ← popHost_of_cons h, perform, popHost_readReg]

theorem step_readEvents {s : State} {rest : List HostAccess} (h : s.host = .readEvents :: rest) :
    step s = .next (s.popHost.answer (.events s.eventsSeen)) := by
  rw [step_cons h, ← popHost_of_cons h, perform, popHost_eventsSeen]

theorem eventsSeen_of_started {s : State} (h : s.run ≠ .idle) : s.eventsSeen = s.events := by
  simp [State.eventsSeen, State.unstarted, h]

/-- Settles O42: each read is one step that takes the interaction and writes the reply alone. -/
theorem readsAndIdlingChangeNothing : Obligations.ReadsAndIdlingChangeNothing := by
  intro s rest
  refine ⟨fun r hs => ?_, fun hs => ?_, eventsSeen_of_started, step_nil⟩
  · rw [step_read hs, popHost_of_cons hs, State.answer]
  · rw [step_readEvents hs, popHost_of_cons hs, State.answer]

end Sys2Proof.Machine
end

section
/-! # The family 30_encoding.md: proofs

First the selection of operations (R94), then the channel map (R83, R84), the event record (R90) and the text log
(R91, R92). -/

namespace Sys2Proof.Machine

/-! ## O31: an operation whose row is not taken -/

/-- What a guarded operation answers where its guard fails. -/
theorem next_ite_of_false {g : Bool} {s t : State} (h : g = false) :
    (.next (if g then t else s) : Result) = .next s := by rw [h]; rfl

theorem latchReject_taken (s : State) (smp : Sample) :
    taken s.view (.latchReject smp) = (s.window && !s.selected smp) := by
  simp [taken, State.selected, chipSelected]

theorem byteHigh_of_not_taken {s : State} {b : Byte} (h : taken s.view (.byteHigh b) = false) :
    execByteHigh b s = .next s := by
  rw [execByteHigh]
  split
  · next lo hb =>
    have hr : s.isRunning = false := by simpa [taken, hb] using h
    rw [hr]
    rfl
  · rfl

/-- Settles O31: the guard in each operation's meaning is its row's condition; the skipping rows change nothing
anyway, and CLOCK_UPDATE and INDEX_ADVANCE have no condition that could fail. -/
theorem untakenOperationsChangeNothing : Obligations.UntakenOperationsChangeNothing := by
  intro i s h
  cases i with
  | byteLow b => exact next_ite_of_false h
  | byteHigh b => exact byteHigh_of_not_taken h
  | sampleStep smp => exact if_neg (Bool.eq_false_iff.mp h)
  | resetDetect smp => exact next_ite_of_false h
  | resetHold smp => rfl
  | latchDecode smp => exact next_ite_of_false h
  | latchReject smp => exact next_ite_of_false ((latchReject_taken s smp).symm.trans h)
  | latchIdle smp => rfl
  | edgeRise smp => exact next_ite_of_false h
  | edgeNone smp => rfl
  | clockUpdate smp => cases h
  | indexAdvance => cases h
  | limitStop => exact next_ite_of_false h
  | indexExhaust => exact next_ite_of_false h
  | start => exact next_ite_of_false h
  | startBadMap => exact next_ite_of_false h
  | endOfStreamTruncated => exact next_ite_of_false h
  | endOfStreamEmpty => exact next_ite_of_false h
  | endOfStreamOk => exact next_ite_of_false h
  | configWrite r v =>
    have hr : s.isRunning = true := by simpa [taken] using h
    exact congrArg Host.Outcome.next (if_pos hr)

/-! ## O3: what the decoder selects -/

/-- The operation is well formed, its row is taken in this view, and the row is one of this stage. -/
structure RowAt (st : Stage) (c : View) (i : Instr) : Prop where
  wellFormed : i.wellFormed = true
  rowTaken : taken c i = true
  stage : (encode i).1 = st

theorem decodeConfig_rowAt {r : Nat} {v : Word} {c : View} {i : Instr} (h : decodeConfig r v c = .op i) :
    RowAt .config c i := by
  unfold decodeConfig at h
  split_ifs at h with hreg hrun
  cases h
  exact ⟨decide_eq_true hreg, by simp [taken, hrun], rfl⟩

theorem decodeByteIn_rowAt {r : Nat} {v : Word} {c : View} {i : Instr} (h : decodeByteIn r v c = .op i) :
    RowAt .byteIn c i := by
  unfold decodeByteIn at h
  split_ifs at h with hreg hrun hheld <;> cases h
  · exact ⟨rfl, by simpa [taken, hheld] using hrun, rfl⟩
  · exact ⟨rfl, by simpa [taken, hheld] using hrun, rfl⟩

theorem decodeEndOfStream_rowAt {r : Nat} {v : Word} {c : View} {i : Instr} (h : decodeEndOfStream r v c = .op i) :
    RowAt .endOfStream c i := by
  unfold decodeEndOfStream at h
  split_ifs at h with hreg hbit hrun hheld hzero <;> cases h
  · exact ⟨rfl, by simpa [taken, hheld] using hrun, rfl⟩
  · exact ⟨rfl, by simpa [taken, hheld, hzero] using hrun, rfl⟩
  · exact ⟨rfl, by simpa [taken, hheld, hzero] using hrun, rfl⟩

theorem decodeStart_rowAt {r : Nat} {v : Word} {c : View} {i : Instr} (h : decodeStart r v c = .op i) :
    RowAt .start c i := by
  unfold decodeStart at h
  split_ifs at h with hreg hbit hrun hlegal <;> cases h
  · exact ⟨rfl, by simp [taken, hrun, hlegal], rfl⟩
  · exact ⟨rfl, by simp [taken, hrun, hlegal], rfl⟩

theorem decodeReset_rowAt (smp : Sample) (c : View) : RowAt .reset c (decodeReset smp c) := by
  unfold decodeReset
  split
  · next h => exact ⟨rfl, h, rfl⟩
  · next h => exact ⟨rfl, by simpa [taken, imp_iff_not_or] using h, rfl⟩

theorem decodeLatch_rowAt (smp : Sample) (c : View) : RowAt .latch c (decodeLatch smp c) := by
  unfold decodeLatch
  split_ifs with hwindow hselected
  · exact ⟨rfl, Bool.and_eq_true_iff.mpr ⟨hwindow, hselected⟩, rfl⟩
  · exact ⟨rfl, by simpa [taken, hwindow, chipSelected, imp_iff_not_or] using hselected, rfl⟩
  · exact ⟨rfl, by simpa [taken] using hwindow, rfl⟩

theorem decodeEdge_rowAt (smp : Sample) (c : View) : RowAt .edge c (decodeEdge smp c) := by
  unfold decodeEdge
  split
  · next h => exact ⟨rfl, h, rfl⟩
  · next h => exact ⟨rfl, by simpa [taken, imp_iff_not_or] using h, rfl⟩

theorem decodeWrite_rowAt {st : Stage} {r : Nat} {v : Word} {c : View} {i : Instr}
    (h : decodeWrite st r v c = .op i) : RowAt st c i := by
  cases st with
  | config => exact decodeConfig_rowAt h
  | byteIn => exact decodeByteIn_rowAt h
  | endOfStream => exact decodeEndOfStream_rowAt h
  | start => exact decodeStart_rowAt h
  | _ => cases h

theorem decodeSample_rowAt {st : Stage} {smp : Sample} {c : View} {i : Instr}
    (h : decodeSample st smp c = .op i) : RowAt st c i := by
  cases st with
  | sample =>
    simp only [decodeSample] at h
    split_ifs at h with hrun
    cases h
    exact ⟨rfl, hrun, rfl⟩
  | reset => cases h; exact decodeReset_rowAt smp c
  | latch => cases h; exact decodeLatch_rowAt smp c
  | edge => cases h; exact decodeEdge_rowAt smp c
  | clock => cases h; exact ⟨rfl, rfl, rfl⟩
  | index => cases h; exact ⟨rfl, rfl, rfl⟩
  | _ => cases h

theorem decodeInternal_rowAt {st : Stage} {c : View} {i : Instr} (h : decodeInternal st c = .op i) :
    RowAt st c i := by
  cases st with
  | limit | exhaust =>
    simp only [decodeInternal] at h
    split_ifs at h with hstop
    cases h
    exact ⟨rfl, hstop, rfl⟩
  | _ => cases h

theorem decode_rowAt {st : Stage} {w : Carrier} {c : View} {i : Instr} (h : decode st w c = .op i) :
    RowAt st c i := by
  cases w with
  | regWrite r v => exact decodeWrite_rowAt h
  | sample smp => exact decodeSample_rowAt h
  | internal => exact decodeInternal_rowAt h

/-- Settles O3: what is selected is a row of the stage, and the round trip of O2 selects it from its own encoding. -/
theorem selectedOperationsAreTaken : Obligations.SelectedOperationsAreTaken := by
  intro st w c i h
  obtain ⟨hwf, htaken, rfl⟩ := decode_rowAt h
  exact ⟨hwf, htaken, rfl, encodeRoundTrip i hwf c htaken⟩

/-! ## O4: the rows of a tracker exclude each other and leave no case out -/

theorem latchRows_count : ∀ window cs1 cs2 : Bool,
    [window && (!cs1 && cs2), window && (cs1 || !cs2), !window].count true = 1 := by decide

theorem risingRow_eq_not : ∀ now before : Bool, (now && !before) = !(!now || before) := by decide

/-- Settles O4: the conditions of a tracker's rows are complementary in the bits they read. -/
theorem exactlyOneRowPerTracker : Obligations.ExactlyOneRowPerTracker := fun c smp =>
  ⟨risingRow_eq_not (resetBit c.chanMap smp) c.pastReset,
    latchRows_count c.windowOpen (cs1Bit c.chanMap smp) (cs2Bit c.chanMap smp),
    risingRow_eq_not (clockBit c.chanMap smp) c.prevClockHigh, rfl, rfl⟩

/-! ## O5: the legal channel maps -/

/-- The bits of the four control channels, in the order of CHANMAP's fields (10_state.md R41). -/
def controls (m : Word) : List Nat := [posReset m, posClock m, posCs1 m, posCs2 m]

theorem inAddrRange_eq_false {m : Word} {p : Nat} :
    inAddrRange m p = false ↔ p < posAddrLow m ∨ posAddrHigh m < p := by
  simp only [inAddrRange, Bool.and_eq_false_iff, decide_eq_false_iff_not, not_le]

/-- 30_encoding.md R83, condition by condition. -/
theorem legalMap_iff {m : Word} : legalMap m = true ↔
    posAddrHigh m = posAddrLow m + 11 ∧ (controls m).Nodup ∧
      ∀ p ∈ controls m, p < posAddrLow m ∨ posAddrHigh m < p := by
  simp [legalMap, controls, inAddrRange_eq_false, and_assoc]

theorem chanMapField_lt {m : Word} (k : Nat) : (m.extractLsb' k 4).toNat < 16 := (m.extractLsb' k 4).isLt

theorem posAddrLow_le {m : Word} (h : legalMap m = true) : posAddrLow m ≤ 4 := by
  obtain ⟨hwidth, -⟩ := legalMap_iff.mp h
  have : posAddrHigh m < 16 := chanMapField_lt 20
  omega

theorem startBadMap_taken {s : State} (hr : s.run ≠ .running) (hm : legalMap s.cfg.chanMap = false) :
    taken s.view .startBadMap = true := by
  simp [taken, isRunning_eq_false.mpr hr, hm]

theorem exec_startBadMap {s : State} (h : taken s.view .startBadMap = true) :
    exec .startBadMap s = .next (s.initRun.raiseError .channelMap) := congrArg Host.Outcome.next (if_pos h)

/-- Settles O5, by R83's conditions and the round trip of START_BAD_MAP. -/
theorem legalMapIsTheThreeConditions : Obligations.LegalMapIsTheThreeConditions := by
  refine ⟨fun m => legalMap_iff, fun m => posAddrLow_le, fun s hr hm => ?_⟩
  have htaken := startBadMap_taken hr hm
  exact ⟨encodeRoundTrip .startBadMap rfl s.view htaken, _, exec_startBadMap htaken, rfl, rfl⟩

/-! ## O6: the 120 legal maps -/

/-- The bits that an address range from `low` leaves to the control channels (30_encoding.md R83). -/
def controlBits (low : Nat) : List Nat := (List.range 16).filter fun p => p < low ∨ low + 11 < p

theorem mem_controlBits {low p : Nat} : p ∈ controlBits low ↔ p < 16 ∧ (p < low ∨ low + 11 < p) := by
  simp [controlBits]

theorem nodup_controlBits (low : Nat) : (controlBits low).Nodup := List.nodup_range.filter _

theorem length_controlBits : ∀ low ≤ 4, (controlBits low).length = 4 := by decide

theorem controlBits_append_address : ∀ low ≤ 4,
    (controlBits low ++ (List.range 12).map (low + ·)).Perm (List.range 16) := by decide

theorem lt_of_mem_controls {m : Word} {p : Nat} (h : p ∈ controls m) : p < 16 := by
  simp only [controls, List.mem_cons, List.not_mem_nil, or_false] at h
  obtain rfl | rfl | rfl | rfl := h <;> exact chanMapField_lt _

/-- A map is legal exactly when its control channels take, in some order, the bits its address range leaves. -/
theorem legalMap_iff_perm {m : Word} : legalMap m = true ↔
    posAddrLow m ≤ 4 ∧ posAddrHigh m = posAddrLow m + 11 ∧ (controls m).Perm (controlBits (posAddrLow m)) := by
  constructor
  · intro h
    have hlow := posAddrLow_le h
    obtain ⟨hwidth, hnodup, hout⟩ := legalMap_iff.mp h
    have hsub : controls m ⊆ controlBits (posAddrLow m) := fun p hp =>
      mem_controlBits.mpr ⟨lt_of_mem_controls hp, hwidth ▸ hout p hp⟩
    have hlen : (controlBits (posAddrLow m)).length ≤ (controls m).length := (length_controlBits _ hlow).le
    exact ⟨hlow, hwidth, (List.subperm_of_subset hnodup hsub).perm_of_length_le hlen⟩
  · rintro ⟨-, hwidth, hperm⟩
    refine legalMap_iff.mpr ⟨hwidth, hperm.nodup_iff.mpr (nodup_controlBits _), fun p hp => ?_⟩
    rw [hwidth]
    exact (mem_controlBits.mp (hperm.mem_iff.mp hp)).2

/-- 30_encoding.md R84: the control channels and A0 to A11 of a legal map take each of the 16 bits once. -/
theorem channels_perm_bits {m : Word} (h : legalMap m = true) :
    (controls m ++ (List.range 12).map (posAddrLow m + ·)).Perm (List.range 16) := by
  obtain ⟨hlow, -, hperm⟩ := legalMap_iff_perm.mp h
  exact (hperm.append_right _).trans (controlBits_append_address _ hlow)

/-! ### A CHANMAP value is its six fields -/

/-- The six fields of CHANMAP, lowest first (10_state.md R41). -/
def mapFields (m : Word) : List Nat := controls m ++ [posAddrLow m, posAddrHigh m]

/-- The CHANMAP value with these fields and reserved bits 0: its hexadecimal digits are the fields. -/
def mapWord (fields : List Nat) : Word := BitVec.ofNat 32 (Nat.ofDigits 16 fields)

/-- Six field values of four bits each. -/
def SixFields (fields : List Nat) : Prop := fields.length = 6 ∧ ∀ p ∈ fields, p < 16

theorem ofDigits_lt {fs : List Nat} (h : SixFields fs) : Nat.ofDigits 16 fs < 2 ^ 24 := by
  obtain ⟨hlen, hlt⟩ := h
  have hbound := Nat.ofDigits_lt_base_pow_length (by decide) hlt
  rwa [hlen] at hbound

theorem mapWord_toNat {fs : List Nat} (h : SixFields fs) : (mapWord fs).toNat = Nat.ofDigits 16 fs := by
  rw [mapWord, BitVec.toNat_ofNat]
  exact Nat.mod_eq_of_lt ((ofDigits_lt h).trans (by decide))

theorem mapFields_mapWord {fs : List Nat} (h : SixFields fs) : mapFields (mapWord fs) = fs := by
  have hword := mapWord_toNat h
  obtain ⟨hlen, hlt⟩ := h
  obtain ⟨r, c, s1, s2, lo, hi, rfl⟩ : ∃ r c s1 s2 lo hi, fs = [r, c, s1, s2, lo, hi] := by
    match fs, hlen with
    | [r, c, s1, s2, lo, hi], _ => exact ⟨r, c, s1, s2, lo, hi, rfl⟩
  simp only [List.forall_mem_cons] at hlt
  obtain ⟨hr, hc, h1, h2, hlo, hhi, -⟩ := hlt
  simp only [mapFields, controls, posReset, posClock, posCs1, posCs2, posAddrLow, posAddrHigh,
    BitVec.extractLsb'_toNat, Nat.shiftRight_eq_div_pow, hword, Nat.ofDigits_cons, Nat.ofDigits_nil,
    List.cons_append, List.nil_append, List.cons.injEq, and_true]
  omega

theorem reserved_mapWord {fs : List Nat} (h : SixFields fs) : (mapWord fs).extractLsb' 24 8 = 0#8 := by
  refine BitVec.eq_of_toNat_eq ?_
  rw [BitVec.extractLsb'_toNat, Nat.shiftRight_eq_div_pow, mapWord_toNat h, Nat.div_eq_of_lt (ofDigits_lt h)]
  rfl

theorem mapWord_mapFields {m : Word} (h : m.extractLsb' 24 8 = 0#8) : mapWord (mapFields m) = m := by
  have hreserved := congrArg BitVec.toNat h
  have hm := m.isLt
  refine BitVec.eq_of_toNat_eq ?_
  simp only [BitVec.extractLsb'_toNat, Nat.shiftRight_eq_div_pow, BitVec.toNat_ofNat, mapWord, mapFields, controls,
    posReset, posClock, posCs1, posCs2, posAddrLow, posAddrHigh, List.cons_append, List.nil_append,
    Nat.ofDigits_cons, Nat.ofDigits_nil] at hreserved ⊢
  omega

/-! ### The list of the legal maps -/

/-- The fields of the legal maps: five address ranges, and for each the orders of the four bits it leaves
(30_encoding.md R84). -/
def legalFields : List (List Nat) :=
  (List.range 5).flatMap fun low => (controlBits low).permutations.map (· ++ [low, low + 11])

theorem mapFields_mem_legalFields {m : Word} : mapFields m ∈ legalFields ↔ legalMap m = true := by
  simp only [legalFields, List.mem_flatMap, List.mem_map, List.mem_range, List.mem_permutations,
    legalMap_iff_perm]
  constructor
  · rintro ⟨low, hlow, order, hperm, heq⟩
    obtain ⟨rfl, haddr⟩ := List.append_inj' heq rfl
    simp only [List.cons.injEq] at haddr
    obtain ⟨rfl, hhigh, -⟩ := haddr
    exact ⟨Nat.le_of_lt_succ hlow, hhigh.symm, hperm⟩
  · rintro ⟨hlow, hwidth, hperm⟩
    exact ⟨posAddrLow m, Nat.lt_succ_of_le hlow, controls m, hperm, by rw [mapFields, hwidth]⟩

theorem length_legalFields : legalFields.length = 120 := by
  simp only [legalFields, List.length_flatMap, List.length_map, List.length_permutations]
  decide

theorem nodup_legalFields : legalFields.Nodup := by
  refine List.nodup_flatMap.mpr ⟨fun low _ => ?_, List.nodup_range.imp fun hne fs h h' => hne ?_⟩
  · exact (List.nodup_permutations _ (nodup_controlBits low)).map (List.append_left_injective _)
  · obtain ⟨order, -, rfl⟩ := List.mem_map.mp h
    obtain ⟨order', -, heq⟩ := List.mem_map.mp h'
    exact (List.head_eq_of_cons_eq (List.append_inj_right' heq rfl)).symm

theorem sixFields_of_mem_legalFields {fs : List Nat} (h : fs ∈ legalFields) : SixFields fs := by
  simp only [legalFields, List.mem_flatMap, List.mem_map, List.mem_range, List.mem_permutations] at h
  obtain ⟨low, hlow, order, hperm, rfl⟩ := h
  refine ⟨?_, List.forall_mem_append.mpr ⟨fun p hp => ?_, fun p hp => ?_⟩⟩
  · rw [List.length_append, hperm.length_eq, length_controlBits low (Nat.le_of_lt_succ hlow)]
    rfl
  · exact (mem_controlBits.mp (hperm.mem_iff.mp hp)).1
  · simp only [List.mem_cons, List.not_mem_nil, or_false] at hp
    omega

theorem nodup_legalWords : (legalFields.map mapWord).Nodup :=
  nodup_legalFields.map_on fun x hx y hy heq => by
    rw [← mapFields_mapWord (sixFields_of_mem_legalFields hx), heq,
      mapFields_mapWord (sixFields_of_mem_legalFields hy)]

theorem mem_legalWords {m : Word} :
    m ∈ legalFields.map mapWord ↔ m.extractLsb' 24 8 = 0#8 ∧ legalMap m = true := by
  constructor
  · intro h
    obtain ⟨fs, hfs, rfl⟩ := List.mem_map.mp h
    have hsix := sixFields_of_mem_legalFields hfs
    exact ⟨reserved_mapWord hsix, mapFields_mem_legalFields.mp (by rwa [mapFields_mapWord hsix])⟩
  · rintro ⟨hreserved, hlegal⟩
    exact List.mem_map.mpr ⟨mapFields m, mapFields_mem_legalFields.mpr hlegal, mapWord_mapFields hreserved⟩

/-- Settles O6: the legal maps are the words whose fields are those of R84's count. -/
theorem legalMapsAreOneToOneAndOneHundredTwenty : Obligations.LegalMapsAreOneToOneAndOneHundredTwenty :=
  ⟨fun _ => channels_perm_bits,
    ⟨legalFields.map mapWord, (List.length_map _).trans length_legalFields, nodup_legalWords,
      fun _ => mem_legalWords⟩,
    by decide⟩

/-! ## O8: the event record -/

/-- The fields of a word put together like an event record, 30_encoding.md R90. -/
theorem recordLayout_fields (k : BitVec 2) (i : Index) (a : Addr) :
    (k ++ 0#2 ++ i ++ a).extractLsb' 78 2 = k ∧ (k ++ 0#2 ++ i ++ a).extractLsb' 76 2 = 0#2 ∧
    (k ++ 0#2 ++ i ++ a).extractLsb' 12 64 = i ∧ (k ++ 0#2 ++ i ++ a).extractLsb' 0 12 = a := by
  have pastAddress (n l : Nat) : (k ++ 0#2 ++ i ++ a).extractLsb' (12 + n) l = (k ++ 0#2 ++ i).extractLsb' n l := by
    rw [BitVec.extractLsb'_append_eq_of_le (by omega), Nat.add_sub_cancel_left]
  have pastIndex (n l : Nat) : (k ++ 0#2 ++ i).extractLsb' (64 + n) l = (k ++ 0#2).extractLsb' n l := by
    rw [BitVec.extractLsb'_append_eq_of_le (by omega), Nat.add_sub_cancel_left]
  refine ⟨?_, ?_, ?_, BitVec.extractLsb'_append_eq_right⟩
  · exact (pastAddress 66 2).trans ((pastIndex 2 2).trans BitVec.extractLsb'_append_eq_left)
  · exact (pastAddress 64 2).trans ((pastIndex 0 2).trans BitVec.extractLsb'_append_eq_right)
  · exact (pastAddress 0 64).trans BitVec.extractLsb'_append_eq_right

theorem eventRecord_fields (e : Event) :
    (eventRecord e).extractLsb' 78 2 = eventKind e ∧ (eventRecord e).extractLsb' 76 2 = 0#2 ∧
    (eventRecord e).extractLsb' 12 64 = eventIndex e ∧ (eventRecord e).extractLsb' 0 12 = eventAddress e :=
  recordLayout_fields _ _ _

theorem eventRecord_kind_ne_zero (e : Event) : (eventRecord e).extractLsb' 78 2 ≠ 0b00#2 := by
  obtain ⟨hkind, -⟩ := eventRecord_fields e
  rw [hkind]
  cases e <;> simp [eventKind]

/-- Kind, index and address tell every event from every other. -/
theorem event_ext {e f : Event} (hk : eventKind e = eventKind f) (hi : eventIndex e = eventIndex f)
    (ha : eventAddress e = eventAddress f) : e = f := by
  cases e with
  | resetObserved i =>
    cases f with
    | resetObserved j => exact congrArg Event.resetObserved hi
    | _ => simp [eventKind] at hk
  | clockEdge i =>
    cases f with
    | clockEdge j => exact congrArg Event.clockEdge hi
    | _ => simp [eventKind] at hk
  | addressDecoded i a =>
    cases f with
    | addressDecoded j b => exact congrArg₂ Event.addressDecoded hi ha
    | _ => simp [eventKind] at hk

theorem eventRecord_injective {e f : Event} (h : eventRecord e = eventRecord f) : e = f := by
  obtain ⟨hkind, -, hindex, haddr⟩ := eventRecord_fields e
  obtain ⟨hkind', -, hindex', haddr'⟩ := eventRecord_fields f
  rw [h] at hkind hindex haddr
  exact event_ext (hkind.symm.trans hkind') (hindex.symm.trans hindex') (haddr.symm.trans haddr')

/-- Settles O8, from the layout of the record. -/
theorem eventRecordsCarryTheirFields : Obligations.EventRecordsCarryTheirFields :=
  ⟨fun i a => eventRecord_fields (.addressDecoded i a), fun i => eventRecord_fields (.resetObserved i),
    fun i => eventRecord_fields (.clockEdge i),
    eventRecord_kind_ne_zero, fun _ _ => eventRecord_injective⟩

/-! ## O9, O10: the text log -/

/-! ### The decimal index -/

theorem digitChar_eq_natDigitChar : ∀ d < 10, digitChar d = d.digitChar := by decide

/-- With fuel for all its digits the model's decimal is the library's. -/
theorem decimalInto_eq_toDigits (fuel n : Nat) (acc : List Char) (h : n < 10 ^ (fuel + 1)) :
    decimalInto (fuel + 1) n acc = Nat.toDigits 10 n ++ acc := by
  induction fuel generalizing n acc with
  | zero =>
    have hn : n < 10 := h
    rw [decimalInto, if_pos hn, Nat.toDigits_of_lt_base hn, digitChar_eq_natDigitChar n hn]
    rfl
  | succ fuel ih =>
    rw [decimalInto]
    split
    · next hn =>
      rw [Nat.toDigits_of_lt_base hn, digitChar_eq_natDigitChar n hn]
      rfl
    · next hn =>
      have hrest : n / 10 < 10 ^ (fuel + 1) := Nat.div_lt_of_lt_mul (by rwa [← Nat.pow_succ'])
      have hdigit : n % 10 < 10 := Nat.mod_lt n (by decide)
      rw [ih _ _ hrest, Nat.toDigits_of_base_le (by decide) (Nat.le_of_not_lt hn), List.append_assoc,
        digitChar_eq_natDigitChar _ hdigit]
      rfl

theorem decimalIndex_eq_toDigits (i : Index) : decimalIndex i = Nat.toDigits 10 i.toNat := by
  have hfuel : i.toNat < 10 ^ (19 + 1) := i.isLt.trans (by decide)
  rw [decimalIndex, decimalInto_eq_toDigits 19 _ _ hfuel, List.append_nil]

/-- Only the decimal of 0 begins with the digit 0. -/
theorem eq_zero_of_head_toDigits {n : Nat} (h : (Nat.toDigits 10 n).head? = some '0') : n = 0 := by
  induction n using Nat.strong_induction_on with
  | _ n ih =>
    rcases Nat.lt_or_ge n 10 with hn | hn
    · rw [Nat.toDigits_of_lt_base hn] at h
      exact Nat.digitChar_eq_zero.mp (Option.some.inj h)
    · rw [Nat.toDigits_of_base_le (by decide) hn, List.head?_append_of_ne_nil _ Nat.toDigits_ne_nil] at h
      have hlead := ih (n / 10) (by omega) h
      omega

theorem decimalIndex_value (i : Index) :
    (decimalIndex i).foldl (fun n ch => 10 * n + (ch.toNat - 48)) 0 = i.toNat := by
  rw [decimalIndex_eq_toDigits]
  exact Nat.ofDigitChars_eq_foldl.symm.trans Nat.ofDigitChars_ten_toDigits

theorem decimalIndex_digits {i : Index} {ch : Char} (h : ch ∈ decimalIndex i) :
    48 ≤ ch.toNat ∧ ch.toNat ≤ 57 := by
  rw [decimalIndex_eq_toDigits] at h
  have hdigit := Nat.isDigit_of_mem_toDigits (by decide) le_rfl h
  simpa [Char.isDigit, UInt32.le_iff_toNat_le] using hdigit

theorem decimalIndex_ne_nil (i : Index) : decimalIndex i ≠ [] := by
  rw [decimalIndex_eq_toDigits]
  exact Nat.toDigits_ne_nil

theorem decimalIndex_no_leading_zero {i : Index} (h : (decimalIndex i).head? = some '0') : decimalIndex i = ['0'] := by
  rw [decimalIndex_eq_toDigits] at h ⊢
  rw [eq_zero_of_head_toDigits h, Nat.toDigits_zero]

/-! ### The hexadecimal address -/

/-- The hexadecimal digit of an address with weight `16 ^ k`. -/
def hexDigit (a : Addr) (k : Nat) : Fin 16 := ⟨a.toNat / 16 ^ k % 16, Nat.mod_lt _ (by decide)⟩

theorem digitChar_eq_getD : ∀ d : Fin 16, digitChar d.val =
    ['0', '1', '2', '3', '4', '5', '6', '7', '8', '9', 'A', 'B', 'C', 'D', 'E', 'F'].getD d.val ' ' := by decide

theorem digitChar_injective : ∀ d e : Fin 16, digitChar d.val = digitChar e.val → d = e := by decide

theorem hexDigit_value (a : Addr) :
    a.toNat = 256 * (hexDigit a 2).val + 16 * (hexDigit a 1).val + (hexDigit a 0).val := by
  have := a.isLt
  simp only [hexDigit]
  omega

theorem hexAddress_eq_map (a : Addr) :
    hexAddress a = [hexDigit a 2, hexDigit a 1, hexDigit a 0].map fun d => digitChar d.val := by
  have hlead : a.toNat / 256 % 16 = a.toNat / 256 := Nat.mod_eq_of_lt (Nat.div_lt_of_lt_mul a.isLt)
  simp [hexAddress, hexDigit, hlead]

theorem hexAddress_injective {a b : Addr} (h : hexAddress a = hexAddress b) : a = b := by
  simp only [hexAddress_eq_map, List.map_cons, List.cons.injEq] at h
  obtain ⟨hx, hy, hz, -⟩ := h
  refine BitVec.eq_of_toNat_eq ?_
  rw [hexDigit_value a, hexDigit_value b, digitChar_injective _ _ hx, digitChar_injective _ _ hy,
    digitChar_injective _ _ hz]

/-- Settles O9: the index is the library's decimal, the address its three digits. -/
theorem logLinesAreTheirEvents : Obligations.LogLinesAreTheirEvents := by
  refine ⟨fun i => rfl, fun i => rfl, fun i a => ?_, fun i => ?_⟩
  · refine ⟨hexDigit a 2, hexDigit a 1, hexDigit a 0, hexDigit_value a, ?_⟩
    rw [logLine, hexAddress_eq_map]
    simp only [digitChar_eq_getD]
  · exact ⟨decimalIndex_value i, fun _ => decimalIndex_digits, decimalIndex_ne_nil i, decimalIndex_no_leading_zero⟩

/-- Settles O10: the address line is its three digits between fixed characters, and they tell addresses apart. -/
theorem addressLineIsLossyInTheIndexOnly : Obligations.AddressLineIsLossyInTheIndexOnly := by
  refine fun i j a b => ⟨rfl, fun h => ?_, fun h => by rw [h]; rfl⟩
  exact hexAddress_injective (List.append_inj_left' (List.append_cancel_left (as := ['F']) h) rfl)

end Sys2Proof.Machine
end

section
/-! # The family 40_sample_source.md: proofs

First what the three rows of the byte stream and SAMPLE_STEP do where their rows are taken, then the frame they share,
then the two BYTE_IN writes of a sample. -/

namespace Sys2Proof.Machine

/-! ## O21, O27: the operations where their rows are taken -/

theorem exec_byteLow {s : State} (b : Byte) (hr : s.run = .running) (hb : s.heldByte = none) :
    exec (.byteLow b) s = .next (s.holdByte b) := by
  simp [exec, execByteLow, isRunning_iff.mpr hr, hb]

theorem exec_sampleStep {s : State} (smp : Sample) (hr : s.run = .running) :
    exec (.sampleStep smp) s = s.sampleStep smp := if_pos (isRunning_iff.mpr hr)

theorem exec_sampleStep_of_lt {s : State} (smp : Sample) (hr : s.run = .running) (hi : s.idx.toNat < 2 ^ 64 - 1) :
    exec (.sampleStep smp) s = .next (s.counted smp).stopChecks := by
  rw [exec_sampleStep smp hr, sampleStep_of_lt smp (Nat.ne_of_lt hi)]

/-- BYTE_HIGH is the SAMPLE_STEP of the assembled sample on the state without the held byte, 40_sample_source.md
R121. -/
theorem exec_byteHigh {s : State} {lo : Byte} (b : Byte) (hr : s.run = .running) (hb : s.heldByte = some lo) :
    exec (.byteHigh b) s = exec (.sampleStep (assemble b lo)) s.dropByte := by
  rw [exec_sampleStep (s := s.dropByte) _ hr]
  simp [exec, execByteHigh, isRunning_iff.mpr hr, hb]

theorem exec_endOfStreamTruncated {s : State} {lo : Byte} (hr : s.run = .running) (hb : s.heldByte = some lo) :
    exec .endOfStreamTruncated s = .next (s.dropByte.raiseError .truncatedStream) := by
  simp [exec, execEndOfStreamTruncated, isRunning_iff.mpr hr, hb]

/-- Settles O21: the row is taken, and holding a byte writes that field alone. -/
theorem byteLowResult : Obligations.ByteLowResult := fun _ b hr hb => exec_byteLow b hr hb

/-- Settles O27: the row is taken; it drops the byte and raises the error. -/
theorem endOfStreamTruncatedResult : Obligations.EndOfStreamTruncatedResult :=
  fun _ _ hr hb => exec_endOfStreamTruncated hr hb

/-! ## O22: the assembled sample -/

/-- `lo | (b << 8)`, 20_memory.md R61. -/
theorem shiftLeft_or_eq_assemble (b lo : Byte) : b.setWidth 16 <<< 8 ||| lo.setWidth 16 = assemble b lo := by
  rw [assemble, BitVec.append_def, BitVec.shiftLeftZeroExtend_eq, BitVec.setWidth'_eq]

/-- Settles O22: BYTE_HIGH is a SAMPLE_STEP, which completes below the last index and does not touch the held byte. -/
theorem byteHighProcessesTheAssembledSample : Obligations.ByteHighProcessesTheAssembledSample := by
  intro s b lo hr hb hi
  have hstep := exec_sampleStep_of_lt (s := s.dropByte) (assemble b lo) hr hi
  rw [shiftLeft_or_eq_assemble, exec_byteHigh b hr hb]
  exact ⟨_, hstep, hstep, by simp⟩

/-! ## O34: the frame -/

/-- A next state is the same state, or the operation's row was taken. -/
theorem exec_eq_next_cases {i : Instr} {s t : State} (h : exec i s = .next t) : t = s ∨ taken s.view i = true := by
  cases htaken : taken s.view i with
  | true => exact .inr rfl
  | false =>
    rw [untakenOperationsChangeNothing i s htaken] at h
    cases h
    exact .inl rfl

theorem taken_byteLow_iff {s : State} {b : Byte} :
    taken s.view (.byteLow b) = true ↔ s.run = .running ∧ s.heldByte = none := by
  simp [taken, isRunning_iff]

theorem taken_byteHigh_iff {s : State} {b : Byte} :
    taken s.view (.byteHigh b) = true ↔ s.run = .running ∧ ∃ lo, s.heldByte = some lo := by
  simp [taken, isRunning_iff, Option.isSome_iff_exists]

theorem taken_sampleStep_iff {s : State} {smp : Sample} :
    taken s.view (.sampleStep smp) = true ↔ s.run = .running := isRunning_iff

/-- What BYTE_LOW, BYTE_HIGH and SAMPLE_STEP all keep: the configuration, the error code, EMPTY and the model's own
fields; events are appended, three at most. -/
structure SampleFrame (s t : State) : Prop where
  cfg : t.cfg = s.cfg
  cfgRun : t.cfgRun = s.cfgRun
  err : t.err = s.err
  empty : t.empty = s.empty
  port : State.PortUnchanged s t
  events_prefix : s.events <+: t.events
  events_length : t.events.length ≤ s.events.length + 3

theorem sampleFrame_refl (s : State) : SampleFrame s s :=
  ⟨rfl, rfl, rfl, rfl, ⟨rfl, rfl, rfl⟩, List.prefix_rfl, Nat.le_add_right _ _⟩

theorem length_sampleEvents_le (i : Index) (a : Addr) (r l c : Bool) : (sampleEvents i a r l c).length ≤ 3 := by
  cases r <;> cases l <;> cases c <;> simp [sampleEvents]

theorem processed_portUnchanged (s : State) (smp : Sample) : State.PortUnchanged s (s.counted smp).stopChecks := by
  rw [stopChecks_eq, State.counted, track_eq]
  exact ⟨rfl, rfl, rfl⟩

theorem sampleFrame_processed (s : State) (smp : Sample) : SampleFrame s (s.counted smp).stopChecks where
  cfg := by simp
  cfgRun := by simp
  err := by simp
  empty := by simp
  port := processed_portUnchanged s smp
  events_prefix := by simp
  events_length := by
    rw [stopChecks_events, counted_events, track_events, List.length_append]
    exact Nat.add_le_add_left (length_sampleEvents_le ..) _

theorem sampleStep_frame {s t : State} {smp : Sample} (h : exec (.sampleStep smp) s = .next t) :
    SampleFrame s t ∧ t.heldByte = s.heldByte := by
  obtain rfl | htaken := exec_eq_next_cases h
  · exact ⟨sampleFrame_refl t, rfl⟩
  · rw [exec_sampleStep smp (taken_sampleStep_iff.mp htaken), sampleStep_eq_next] at h
    obtain ⟨-, rfl⟩ := h
    exact ⟨sampleFrame_processed s smp, by simp⟩

theorem byteLow_frame {s t : State} {b : Byte} (h : exec (.byteLow b) s = .next t) :
    SampleFrame s t ∧ t = { s with heldByte := t.heldByte } := by
  obtain rfl | htaken := exec_eq_next_cases h
  · exact ⟨sampleFrame_refl t, rfl⟩
  · obtain ⟨hr, hb⟩ := taken_byteLow_iff.mp htaken
    rw [exec_byteLow b hr hb] at h
    cases h
    exact ⟨{ sampleFrame_refl s with }, rfl⟩

/-- Taking the held byte stays inside the frame, so BYTE_HIGH has the frame of the SAMPLE_STEP it performs. -/
theorem byteHigh_frame {s t : State} {b : Byte} (h : exec (.byteHigh b) s = .next t) : SampleFrame s t := by
  obtain rfl | htaken := exec_eq_next_cases h
  · exact sampleFrame_refl t
  · obtain ⟨hr, lo, hb⟩ := taken_byteHigh_iff.mp htaken
    rw [exec_byteHigh b hr hb] at h
    exact { (sampleStep_frame h).1 with }

/-- Settles O34, by the frame of each of the three operations. -/
theorem byteAndSampleFrame : Obligations.ByteAndSampleFrame := by
  intro s t b smp i hi h
  have hframe : SampleFrame s t ∧ (i = .sampleStep smp → t.heldByte = s.heldByte) ∧
      (i = .byteLow b → t = { s with heldByte := t.heldByte }) := by
    simp only [List.mem_cons, List.not_mem_nil, or_false] at hi
    obtain rfl | rfl | rfl := hi
    · obtain ⟨hlow, hheld⟩ := byteLow_frame h
      exact ⟨hlow, nofun, fun _ => hheld⟩
    · exact ⟨byteHigh_frame h, nofun, nofun⟩
    · obtain ⟨hstep, hheld⟩ := sampleStep_frame h
      exact ⟨hstep, fun _ => hheld, nofun⟩
  obtain ⟨⟨hcfg, hcfgRun, herr, hempty, hport, hprefix, hlength⟩, hheld, hlow⟩ := hframe
  exact ⟨hcfg, hcfgRun, herr, hempty, hport, hprefix, hlength, hheld, hlow⟩

/-! ## O40: the two BYTE_IN writes of a sample -/

@[simp] theorem popHost_heldByte (s : State) : s.popHost.heldByte = s.heldByte := rfl

section
variable {s : State} {v : Word} {rest : List HostAccess}

theorem step_byteIn (hs : s.host = .write regByteIn v :: rest) (hr : s.run = .running) :
    step s = if s.popHost.heldByte.isSome then exec (.byteHigh (v.setWidth 8)) s.popHost
      else exec (.byteLow (v.setWidth 8)) s.popHost := by
  rw [step_cons hs, ← popHost_of_cons hs, perform, writeReg_byteIn, runStage_byteIn,
    if_pos (isRunning_iff (s := s.popHost).mpr hr)]

theorem step_firstByte (hs : s.host = .write regByteIn v :: rest) (hr : s.run = .running) (hb : s.heldByte = none) :
    step s = .next (s.popHost.holdByte (v.setWidth 8)) := by
  rw [step_byteIn hs hr, popHost_heldByte, hb]
  exact exec_byteLow (s := s.popHost) _ hr hb

theorem step_secondByte {lo : Byte} (hs : s.host = .write regByteIn v :: rest) (hr : s.run = .running)
    (hb : s.heldByte = some lo) :
    step s = exec (.sampleStep (assemble (v.setWidth 8) lo)) s.popHost.dropByte := by
  rw [step_byteIn hs hr, popHost_heldByte, hb]
  exact exec_byteHigh (s := s.popHost) _ hr hb

end

/-- A sample is its high byte and its low byte, 20_memory.md R61. -/
theorem assemble_bytes (smp : Sample) : assemble (smp.extractLsb' 8 8) (smp.extractLsb' 0 8) = smp :=
  (BitVec.extractLsb'_append_extractLsb'_eq_extractLsb' rfl).trans BitVec.extractLsb'_eq_self

/-- With no byte held before, the second write of a pair takes away what the first one left. -/
theorem dropByte_popHost_holdByte {s : State} {a c : HostAccess} {rest : List HostAccess} (b : Byte)
    (hs : s.host = a :: c :: rest) (hb : s.heldByte = none) :
    (s.popHost.holdByte b).popHost.dropByte = { s with host := rest } := by
  simp [State.popHost, State.holdByte, State.dropByte, hs, hb]

/-- Settles O40: the first write is the BYTE_LOW of the low byte, the second the BYTE_HIGH of the high byte. -/
theorem twoBytesPresentOneSample : Obligations.TwoBytesPresentOneSample := by
  intro s smp v w rest hr hb hi hv hw hs
  rw [← BitVec.setWidth_eq_extractLsb' (by decide)] at hv hw
  have hhost : (s.popHost.holdByte (v.setWidth 8)).host = .write regByteIn w :: rest :=
    congrArg List.tail hs
  have hsample := exec_sampleStep_of_lt (s := { s with host := rest }) smp hr hi
  refine ⟨s.popHost.holdByte (v.setWidth 8), _, step_firstByte hs hr hb, ?_, hsample, by simp [hb]⟩
  rw [step_secondByte (s := s.popHost.holdByte (v.setWidth 8)) hhost hr rfl, dropByte_popHost_holdByte _ hs hb, hv, hw,
    assemble_bytes, hsample]

end Sys2Proof.Machine
end

section
/-! # The family 41_reset_tracker.md: proofs

First the rows of the reset tracker and the rows that skip, then what each of the eight rows of the three trackers
leaves, said once, and the frame that follows, then the order of RESET and addresses (41_reset_tracker.md R143). -/

namespace Sys2Proof.Machine

/-! ## O11, O12: the rows of the reset tracker, and the rows that skip -/

theorem exec_resetDetect {s : State} {smp : Sample} (hset : s.resetSet smp = true) (hpast : s.pastReset = false) :
    exec (.resetDetect smp) s = .next s.observeReset := by
  simp [exec, execResetDetect, State.resetDetected, hset, hpast]

@[simp] theorem exec_resetHold (s : State) (smp : Sample) : exec (.resetHold smp) s = .next s := rfl
@[simp] theorem exec_latchIdle (s : State) (smp : Sample) : exec (.latchIdle smp) s = .next s := rfl
@[simp] theorem exec_edgeNone (s : State) (smp : Sample) : exec (.edgeNone smp) s = .next s := rfl

/-- Settles O11: the row is taken, and observing the reset writes `pastReset` and appends the one event. -/
theorem resetDetectResult : Obligations.ResetDetectResult := fun _ _ hset hpast => exec_resetDetect hset hpast

/-- Settles O12: the three rows skip in every state, so also where they are taken. -/
theorem skippingRowsChangeNothing : Obligations.SkippingRowsChangeNothing := fun s smp =>
  ⟨fun _ => exec_resetHold s smp, fun _ => exec_latchIdle s smp, fun _ => exec_edgeNone s smp⟩

/-! ## O32: the frame of the three trackers -/

/-- What a row of the reset tracker, the address latch or the clock edge detector leaves: nothing changed, or, under
the row's condition, what the row writes. -/
inductive TrackerResult (s : State) (smp : Sample) : Instr → State → Prop
  | unchanged (i : Instr) : TrackerResult s smp i s
  | resetDetect (h : s.resetDetected smp = true) : TrackerResult s smp (.resetDetect smp) s.observeReset
  | latchDecode (h : (s.window && s.selected smp) = true) :
      TrackerResult s smp (.latchDecode smp) (s.consumePending.emitAddress smp)
  | latchReject (h : (s.window && !s.selected smp) = true) : TrackerResult s smp (.latchReject smp) s.consumePending
  | edgeRise (h : s.edgeRises smp = true) : TrackerResult s smp (.edgeRise smp) s.recordEdge.clockEdgeEvent
  | clockUpdate : TrackerResult s smp (.clockUpdate smp) (s.clockUpdate smp)

/-- What a guarded operation leaves, with its guard. -/
theorem next_ite_cases {g : Bool} {s t u : State} (h : (.next (if g then u else s) : Result) = .next t) :
    t = s ∨ g = true ∧ t = u := by
  cases g <;> cases h <;> simp

theorem tracker_result {s t : State} {smp : Sample} {i : Instr}
    (hi : i ∈ [.resetDetect smp, .resetHold smp, .latchDecode smp, .latchReject smp, .latchIdle smp, .edgeRise smp,
      .edgeNone smp, .clockUpdate smp]) (h : exec i s = .next t) : TrackerResult s smp i t := by
  simp only [List.mem_cons, List.not_mem_nil, or_false] at hi
  obtain rfl | rfl | rfl | rfl | rfl | rfl | rfl | rfl := hi
  · obtain rfl | ⟨hg, rfl⟩ := next_ite_cases h
    exacts [.unchanged _, .resetDetect hg]
  · cases h; exact .unchanged _
  · obtain rfl | ⟨hg, rfl⟩ := next_ite_cases h
    exacts [.unchanged _, .latchDecode hg]
  · obtain rfl | ⟨hg, rfl⟩ := next_ite_cases h
    exacts [.unchanged _, .latchReject hg]
  · cases h; exact .unchanged _
  · obtain rfl | ⟨hg, rfl⟩ := next_ite_cases h
    exacts [.unchanged _, .edgeRise hg]
  · cases h; exact .unchanged _
  · cases h; exact .clockUpdate

/-- The clock edge event may append one event; it changes nothing else. -/
theorem clockEdgeEvent_eq (s : State) :
    s.clockEdgeEvent = { s with events := s.events ++ if s.edgeReported then [.clockEdge s.idx] else [] } := by
  cases h : s.edgeReported <;> simp [State.clockEdgeEvent, State.emit, h]

/-- Settles O32, by what each of the rows leaves: the fields it writes are the ones excepted for it. -/
theorem trackerFrame : Obligations.TrackerFrame := by
  intro s t smp i hi h
  cases tracker_result hi h with
  | unchanged => simp [State.PortUnchanged]
  | resetDetect => simp [State.PortUnchanged]
  | latchDecode => simp [State.PortUnchanged]
  | latchReject => simp [State.PortUnchanged]
  | edgeRise => simp [State.PortUnchanged, clockEdgeEvent_eq]
  | clockUpdate => simp [State.PortUnchanged]

/-! ## O56: no address before RESET -/

/-- Where addresses come after a reset and no reset was observed, every event is a clock edge. -/
theorem eq_clockEdge_of_no_reset {l : List Event} (haddr : addressesAfterReset l = true)
    (hcount : l.countP isResetObserved = 0) {e : Event} (he : e ∈ l) : ∃ i, e = .clockEdge i := by
  induction l with
  | nil => cases he
  | cons f l ih =>
    cases f with
    | resetObserved i => simp [isResetObserved] at hcount
    | addressDecoded i a => cases haddr
    | clockEdge i =>
      obtain rfl | hrest := List.mem_cons.mp he
      · exact ⟨i, rfl⟩
      · exact ih haddr (by simpa [isResetObserved] using hcount) hrest

/-- Settles O56: the step keeps the invariant, whose order of the events leaves clock edges only. -/
theorem noResetNoAddress : Obligations.NoResetNoAddress := by
  intro s t hinv hstep hstarted hpast e he
  obtain ⟨-, -, -, -, hevents⟩ := stepKeepsTheInvariant s t hinv hstep
  obtain ⟨-, -, hcount, haddr⟩ := hevents hstarted
  exact eq_clockEdge_of_no_reset haddr (by rw [hcount, hpast]; rfl) he

end Sys2Proof.Machine
end

section
/-! # The family 42_clock_edge_detector.md: proofs

The gate of the clock edge events in the bits of CTRL, then what EDGE_RISE does where its row is taken, and what
CLOCK_UPDATE does in every state. -/

namespace Sys2Proof.Machine

/-! ## O15: EDGE_RISE -/

/-- EMIT_CLOCK_EDGES is CTRL bit 0 and EDGE_REQUIRES_RESET is CTRL bit 2, 42_clock_edge_detector.md R162. -/
theorem edgeReported_iff {s : State} :
    s.edgeReported = true ↔
      s.cfgRun.ctrl.getLsbD 0 = true ∧ (s.cfgRun.ctrl.getLsbD 2 = false ∨ s.pastReset = true) := by
  simp [State.edgeReported, RunConfig.emitClockEdges, RunConfig.edgeRequiresReset]

theorem exec_edgeRise {s : State} {smp : Sample} (hclock : s.clockHigh smp = true) (hprev : s.prevClockHigh = false) :
    exec (.edgeRise smp) s = .next s.recordEdge.clockEdgeEvent := by
  simp [exec, execEdgeRise, State.edgeRises, hclock, hprev]

/-- Settles O15: the row is taken; recording the edge leaves what the gate of its event reads. -/
theorem edgeRiseResult : Obligations.EdgeRiseResult := by
  intro s smp hclock hprev
  have hgate : s.recordEdge.edgeReported = s.edgeReported := edgeReported_congr rfl rfl
  rw [exec_edgeRise hclock hprev, clockEdgeEvent_eq, hgate]
  simp only [edgeReported_iff, State.recordEdge]

/-! ## O16: CLOCK_UPDATE -/

@[simp] theorem exec_clockUpdate (s : State) (smp : Sample) : exec (.clockUpdate smp) s = .next (s.clockUpdate smp) := rfl

/-- Settles O16: the row is always taken, and the level it records is the CLOCK bit of the sample. -/
theorem clockUpdateResult : Obligations.ClockUpdateResult := exec_clockUpdate

end Sys2Proof.Machine
end

section
/-! # The family 43_address_latch.md: proofs

The address as a slice of the sample, then when the window is open and the two rows that consume the pending edge, then
where an address event of a SAMPLE_STEP comes from. -/

namespace Sys2Proof.Machine

/-! ## O7: the address bits -/

/-- A legal map makes the slice exactly as wide as an address, 30_encoding.md R83. -/
theorem addrField_of_legal {m : Word} (smp : Sample) (h : legalMap m = true) :
    addrField m smp = smp.extractLsb' (posAddrLow m) 12 := by
  obtain ⟨hwidth, -⟩ := legalMap_iff.mp h
  exact BitVec.setWidth_extractLsb'_of_le (by omega)

/-- Twelve bits of a 16-bit sample from bit 4 are all its bits from there. -/
theorem addrField_default (smp : Sample) : (addrField defaultChanMap smp).toNat = smp.toNat >>> 4 := by
  have hlow : posAddrLow defaultChanMap = 4 := rfl
  have hfits : smp.toNat >>> 4 < 2 ^ 12 := by
    have := smp.isLt
    omega
  rw [addrField_of_legal smp (by decide), hlow, BitVec.extractLsb'_toNat, Nat.mod_eq_of_lt hfits]

/-- Settles O7, by the address of a legal map as a slice of the sample. -/
theorem addressBitsComeFromTheAddressChannels : Obligations.AddressBitsComeFromTheAddressChannels := by
  refine ⟨fun m smp h => ⟨(legalMap_iff.mp h).1.symm, fun k hk => ?_⟩, addrField_default⟩
  simp [addrField_of_legal smp h, hk]

/-! ## O13, O14: the rows that consume the pending edge -/

/-- The delay from the edge, 43_address_latch.md R180, R186. -/
theorem windowDue_iff {s : State} :
    s.windowDue = true ↔ ∃ n, s.pendingRiseIndex = some n ∧ s.idx.toNat = n.toNat + 2 := by
  cases h : s.pendingRiseIndex with
  | none => simp [State.windowDue, h]
  | some n =>
    simp only [State.windowDue, h, decide_eq_true_eq, Option.some.injEq, exists_eq_left']
    rfl

theorem window_of_due {s : State} {n : Index} (hpast : s.pastReset = true) (hpending : s.pendingRiseIndex = some n)
    (hidx : s.idx.toNat = n.toNat + 2) : s.window = true :=
  Bool.and_eq_true_iff.mpr ⟨hpast, windowDue_iff.mpr ⟨n, hpending, hidx⟩⟩

/-- Both chip selects asserted, 43_address_latch.md R188. -/
theorem selected_iff {s : State} {smp : Sample} :
    s.selected smp = true ↔ cs1Bit s.cfgRun.chanMap smp = false ∧ cs2Bit s.cfgRun.chanMap smp = true := by
  simp [State.selected, chipSelected]

theorem selected_eq_false_iff {s : State} {smp : Sample} :
    s.selected smp = false ↔ cs1Bit s.cfgRun.chanMap smp = true ∨ cs2Bit s.cfgRun.chanMap smp = false := by
  simp only [State.selected, chipSelected, Bool.and_eq_false_iff, Bool.not_eq_false']

theorem exec_latchDecode {s : State} {smp : Sample} (hwindow : s.window = true) (hsel : s.selected smp = true) :
    exec (.latchDecode smp) s = .next (s.consumePending.emitAddress smp) := by
  simp [exec, execLatchDecode, hwindow, hsel]

theorem exec_latchReject {s : State} {smp : Sample} (hwindow : s.window = true) (hsel : s.selected smp = false) :
    exec (.latchReject smp) s = .next s.consumePending := by
  simp [exec, execLatchReject, hwindow, hsel]

/-- Settles O13: the row is taken; it consumes the pending edge and appends the address of the sample. -/
theorem latchDecodeResult : Obligations.LatchDecodeResult := fun _ _ _ hpast hpending hidx hcs1 hcs2 =>
  exec_latchDecode (window_of_due hpast hpending hidx) (selected_iff.mpr ⟨hcs1, hcs2⟩)

/-- Settles O14: the row is taken; it consumes the pending edge. -/
theorem latchRejectResult : Obligations.LatchRejectResult := fun _ _ _ hpast hpending hidx hcs =>
  exec_latchReject (window_of_due hpast hpending hidx) (selected_eq_false_iff.mpr hcs)

/-! ## O55: where addresses come from -/

theorem addressDecoded_mem_sampleEvents {i j : Index} {a b : Addr} {r l c : Bool} :
    .addressDecoded i a ∈ sampleEvents j b r l c ↔ l = true ∧ i = j ∧ a = b := by
  simp [sampleEvents]

/-- An address among the new events of a sample means that the window was open with this sample's RESET counted, and
both chip selects asserted. -/
theorem addressDecoded_mem_newEvents {s : State} {smp : Sample} {i : Index} {a : Addr} :
    .addressDecoded i a ∈ s.newEvents smp ↔
      (((s.pastReset || s.resetSet smp) = true ∧ s.windowDue = true) ∧ s.selected smp = true) ∧
        i = s.idx ∧ a = s.address smp := by
  rw [State.newEvents, addressDecoded_mem_sampleEvents, Bool.and_eq_true_iff, Bool.and_eq_true_iff]

/-- An event that a SAMPLE_STEP adds is one of the new events of its sample. -/
theorem mem_newEvents_of_sampleStep {s t : State} {smp : Sample} {e : Event} (h : exec (.sampleStep smp) s = .next t)
    (ht : e ∈ t.events) (hs : e ∉ s.events) :
    t = (s.counted smp).stopChecks ∧ e ∈ s.newEvents smp := by
  obtain rfl | htaken := exec_eq_next_cases h
  · exact absurd ht hs
  · rw [exec_sampleStep smp (taken_sampleStep_iff.mp htaken), sampleStep_eq_next] at h
    obtain ⟨-, rfl⟩ := h
    rw [stopChecks_events, counted_events, track_events, List.mem_append] at ht
    exact ⟨rfl, ht.resolve_left hs⟩

/-- Settles O55: the event is new in its sample, so the latch emitted it in an open window. -/
theorem addressesComeTwoSamplesAfterTheEdge : Obligations.AddressesComeTwoSamplesAfterTheEdge := by
  intro s t smp i a hstep ht hs
  obtain ⟨rfl, hnew⟩ := mem_newEvents_of_sampleStep hstep ht hs
  obtain ⟨⟨⟨hpast, hdue⟩, hsel⟩, rfl, rfl⟩ := addressDecoded_mem_newEvents.mp hnew
  obtain ⟨hcs1, hcs2⟩ := selected_iff.mp hsel
  have hpast' : (s.counted smp).stopChecks.pastReset = true := by simpa using hpast
  exact ⟨rfl, windowDue_iff.mp hdue, hpast', hcs1, hcs2, rfl⟩

end Sys2Proof.Machine
end

section
/-! # The family 44_run_control.md: proofs

First the operations of the run control where their rows are taken and the frames that follow, then SAMPLE_STEP and its
sub-operations, then the host's interactions, then a whole decode run as a function (44_run_control.md R234). -/

namespace Sys2Proof.Machine

/-! ## O17, O18: INDEX_ADVANCE -/

theorem exec_indexAdvance (s : State) : exec .indexAdvance s = s.indexAdvance := rfl

theorem idxMax_iff {s : State} : s.idxMax = true ↔ s.idx.toNat = maxSamples := decide_eq_true_iff

/-- Settles O17: below the last index the sum fits in 64 bits. -/
theorem indexAdvanceResult : Obligations.IndexAdvanceResult := fun _ h =>
  ⟨_, indexAdvance_of_lt h, succ_idx_toNat (Nat.ne_of_lt h), rfl⟩

/-- Settles O18: the fault stands under the test for the last index. -/
theorem indexAdvanceStopsOnlyAtTheLastIndex : Obligations.IndexAdvanceStopsOnlyAtTheLastIndex := by
  intro s
  rw [exec_indexAdvance, State.indexAdvance]
  refine Iff.trans ?_ idxMax_iff
  split
  · next h => exact ⟨fun _ => h, fun _ => rfl⟩
  · next h => exact ⟨nofun, fun h' => absurd h' h⟩

/-! ## O19, O20: the stop checks -/

/-- The limit is LIMIT_HI:LIMIT_LO, 10_state.md R43. -/
theorem limit_toNat (c : RunConfig) : c.limit.toNat = c.limitHi.toNat * 2 ^ 32 + c.limitLo.toNat := by
  rw [RunConfig.limit, BitVec.toNat_append, ← Nat.shiftLeft_add_eq_or_of_lt c.limitLo.isLt, Nat.shiftLeft_eq]

theorem sampleLimit_of_enabled {c : RunConfig} (h : c.ctrl.getLsbD 1 = true) : c.sampleLimit = some c.limit := if_pos h

theorem sampleLimit_of_disabled {c : RunConfig} (h : c.ctrl.getLsbD 1 = false) : c.sampleLimit = none :=
  if_neg (Bool.eq_false_iff.mp h)

theorem limitHit_eq_any (s : State) :
    s.limitHit = s.cfgRun.sampleLimit.any fun n => decide (n.toNat ≤ s.idx.toNat) := by
  rw [State.limitHit]
  cases s.cfgRun.sampleLimit <;> rfl

theorem limitHit_iff {s : State} :
    s.limitHit = true ↔ ∃ n, s.cfgRun.sampleLimit = some n ∧ n.toNat ≤ s.idx.toNat := by
  simp [limitHit_eq_any, Option.any_eq_true]

theorem exec_limitStop {s : State} (h : s.limitHit = true) : exec .limitStop s = .next s.finishLimit :=
  congrArg Host.Outcome.next (if_pos h)

theorem exec_indexExhaust {s : State} (hmax : s.idxMax = true) (hlimit : s.limitHit = false) :
    exec .indexExhaust s = .next s.finishLimit := by
  simp [exec, execIndexExhaust, hmax, hlimit]

/-- Settles O19: the row is taken. -/
theorem limitStopResult : Obligations.LimitStopResult := fun _ henable hle =>
  exec_limitStop (limitHit_iff.mpr ⟨_, sampleLimit_of_enabled henable, (limit_toNat _).trans_le hle⟩)

/-- Settles O20: the row is taken, since a run without a limit never hits it. -/
theorem indexExhaustResult : Obligations.IndexExhaustResult := fun s hidx hdisable =>
  exec_indexExhaust (idxMax_iff.mpr hidx) (by rw [limitHit_eq_any, sampleLimit_of_disabled hdisable]; rfl)

/-! ## O28, O29: the END_OF_STREAM rows that end a run in DONE -/

theorem exec_endOfStreamEmpty {s : State} (hr : s.run = .running) (hb : s.heldByte = none) (hi : s.idx = 0#64) :
    exec .endOfStreamEmpty s = .next s.finishEmpty := by
  simp [exec, execEndOfStreamEmpty, isRunning_iff.mpr hr, hb, hi]

theorem exec_endOfStreamOk {s : State} (hr : s.run = .running) (hb : s.heldByte = none) (hi : s.idx ≠ 0#64) :
    exec .endOfStreamOk s = .next s.finishOk := by
  simp [exec, execEndOfStreamOk, isRunning_iff.mpr hr, hb, hi]

/-- Settles O28: the row is taken. -/
theorem endOfStreamEmptyResult : Obligations.EndOfStreamEmptyResult := fun _ => exec_endOfStreamEmpty

/-- Settles O29: the row is taken at an index above 0. -/
theorem endOfStreamOkResult : Obligations.EndOfStreamOkResult := by
  intro s hr hb hi
  refine exec_endOfStreamOk hr hb fun h0 => ?_
  rw [h0] at hi
  exact absurd hi (by decide)

/-! ## O33, O36: the frames of the operations that count and end a run -/

/-- Settles O33: INDEX_ADVANCE counts, and the stop checks end the run or change nothing. -/
theorem indexAndStopFrame : Obligations.IndexAndStopFrame := by
  intro s t i hi h
  simp only [List.mem_cons, List.not_mem_nil, or_false] at hi
  obtain rfl | rfl | rfl := hi
  · obtain ⟨-, rfl⟩ := indexAdvance_eq_next.mp h
    simp [State.PortUnchanged]
  · obtain rfl | ⟨-, rfl⟩ := next_ite_cases h <;> simp [State.PortUnchanged]
  · obtain rfl | ⟨-, rfl⟩ := next_ite_cases h <;> simp [State.PortUnchanged]

/-- Settles O36: each of the three rows changes nothing, or what its rule writes. -/
theorem endOfStreamFrame : Obligations.EndOfStreamFrame := by
  intro s t i hi h
  simp only [List.mem_cons, List.not_mem_nil, or_false] at hi
  obtain rfl | rfl | rfl := hi
  · obtain rfl | ⟨-, rfl⟩ := next_ite_cases h <;> simp [State.PortUnchanged]
  · obtain rfl | ⟨-, rfl⟩ := next_ite_cases h <;> simp [State.PortUnchanged]
  · obtain rfl | ⟨-, rfl⟩ := next_ite_cases h <;> simp [State.PortUnchanged]

/-! ## O25, O35: START and START_BAD_MAP -/

theorem exec_start {s : State} (hr : s.run ≠ .running) (hm : legalMap s.cfg.chanMap = true) :
    exec .start s = .next s.beginRun := by
  simp [exec, execStart, isRunning_eq_false.mpr hr, hm]

/-- At index 0 only a limit of 0 is hit, 44_run_control.md R215. -/
theorem limitHit_initRun (s : State) :
    s.initRun.latchRun.limitHit = decide (s.cfg.sampleLimit = some 0#64) := by
  rw [limitHit_eq_any]
  cases h : s.cfg.sampleLimit with
  | none => simp [h]
  | some n => simp [h, BitVec.toNat_eq]

theorem beginRun_fields (s : State) :
    s.beginRun =
      { s.initRun.latchRun with
        run := if s.cfg.sampleLimit = some 0#64 then .done else .running,
        limitReached := decide (s.cfg.sampleLimit = some 0#64) } := by
  rw [State.beginRun, limitHit_initRun]
  by_cases h : s.cfg.sampleLimit = some 0#64 <;> simp [h, State.finishLimit, State.latchRun, State.initRun]

theorem start_of_running {s : State} (h : s.run = .running) :
    exec .start s = .next s ∧ exec .startBadMap s = .next s := by
  have hr := isRunning_iff.mpr h
  exact ⟨untakenOperationsChangeNothing _ s (by simp [taken, hr]),
    untakenOperationsChangeNothing _ s (by simp [taken, hr])⟩

/-- Settles O25: each row where it is taken, and neither during a run. -/
theorem startResult : Obligations.StartResult := by
  refine fun s => ⟨fun hr hm => ?_, fun hr hm => exec_startBadMap (startBadMap_taken hr hm), start_of_running⟩
  rw [exec_start hr hm, beginRun_fields]
  rfl

/-- Settles O35: a Start writes the decoder state, the status and, with a legal map, the latched configuration. -/
theorem startFrame : Obligations.StartFrame := by
  intro s t i hi h
  simp only [List.mem_cons, List.not_mem_nil, or_false] at hi
  obtain rfl | rfl := hi
  · obtain rfl | ⟨-, rfl⟩ := next_ite_cases h <;> simp [State.PortUnchanged, beginRun_fields]
  · obtain rfl | ⟨-, rfl⟩ := next_ite_cases h <;> simp [State.PortUnchanged]

/-! ## O30, O37: CONFIG_WRITE -/

theorem configWrite_of_running {s : State} (r : Nat) (v : Word) (h : s.run = .running) :
    exec (.configWrite r v) s = .next s :=
  congrArg Host.Outcome.next (if_pos (isRunning_iff.mpr h))

theorem configWrite_of_not_running {s : State} (r : Nat) (v : Word) (h : s.run ≠ .running) :
    exec (.configWrite r v) s = .next (s.putConfig r v) :=
  congrArg Host.Outcome.next (if_neg fun hr => h (isRunning_iff.mp hr))

/-- A mask of the `k` low bits keeps those bits. -/
theorem and_lowMask {v m : Word} {k : Nat} (hk : k < 32) (hm : m.toNat = 2 ^ k - 1) :
    v &&& m = (v.extractLsb' 0 k).setWidth 32 := by
  have hpow : 2 ^ k < 2 ^ 32 := Nat.pow_lt_pow_right (by decide) hk
  have hlow : v.toNat % 2 ^ k < 2 ^ k := Nat.mod_lt _ (Nat.two_pow_pos k)
  refine BitVec.eq_of_toNat_eq ?_
  rw [BitVec.toNat_and, hm, Nat.and_two_pow_sub_one_eq_mod, BitVec.toNat_setWidth, BitVec.extractLsb'_toNat,
    Nat.shiftRight_zero, Nat.mod_eq_of_lt (hlow.trans hpow)]

/-- Settles O30: outside a run the register named takes its writable bits. -/
theorem configWriteResult : Obligations.ConfigWriteResult := by
  refine fun s v => ⟨fun hr => ?_, fun hr r => configWrite_of_running r v hr⟩
  have hmap : v &&& chanMapMask = (v.extractLsb' 0 24).setWidth 32 := and_lowMask (by decide) rfl
  have hctrl : v &&& ctrlMask = (v.extractLsb' 0 3).setWidth 32 := and_lowMask (by decide) rfl
  simp only [configWrite_of_not_running _ v hr, ← hmap, ← hctrl]
  exact ⟨rfl, rfl, rfl, rfl⟩

/-- A configuration write leaves the registers it does not name. -/
theorem put_frame (c : RunConfig) (r : Nat) (v : Word) :
    (r ≠ 0 → (c.put r v).chanMap = c.chanMap) ∧ (r ≠ 1 → (c.put r v).ctrl = c.ctrl) ∧
    (r ≠ 2 → (c.put r v).limitLo = c.limitLo) ∧ (r ≠ 3 → (c.put r v).limitHi = c.limitHi) := by
  unfold RunConfig.put
  split_ifs with h0 h1 h2 h3
  · exact ⟨fun h => absurd h0 h, fun _ => rfl, fun _ => rfl, fun _ => rfl⟩
  · exact ⟨fun _ => rfl, fun h => absurd h1 h, fun _ => rfl, fun _ => rfl⟩
  · exact ⟨fun _ => rfl, fun _ => rfl, fun h => absurd h2 h, fun _ => rfl⟩
  · exact ⟨fun _ => rfl, fun _ => rfl, fun _ => rfl, fun h => absurd h3 h⟩
  · exact ⟨fun _ => rfl, fun _ => rfl, fun _ => rfl, fun _ => rfl⟩

/-- Settles O37: during a run nothing changes, and outside one the registers not named stay. -/
theorem configWriteFrame : Obligations.ConfigWriteFrame := by
  intro s t r v h
  by_cases hr : s.run = .running
  · rw [configWrite_of_running r v hr] at h
    cases h
    exact ⟨rfl, fun _ => rfl, fun _ => rfl, fun _ => rfl, fun _ => rfl, fun _ => rfl⟩
  · rw [configWrite_of_not_running r v hr] at h
    cases h
    obtain ⟨hmap, hctrl, hlo, hhi⟩ := put_frame s.cfg r v
    exact ⟨rfl, hmap, hctrl, hlo, hhi, fun h => absurd h hr⟩

/-! ## O23, O24: SAMPLE_STEP -/

theorem windowDue_eq_any (s : State) :
    s.windowDue = s.pendingRiseIndex.any fun n => decide (s.idx.toNat = n.toNat + 2) := by
  rw [State.windowDue]
  cases s.pendingRiseIndex <;> rfl

/-- The stop conditions that follow a sample, in the state before it, 44_run_control.md R220, R221. -/
theorem stops_after_sample {s : State} (smp : Sample) (h : s.idx.toNat ≠ maxSamples) :
    ((s.counted smp).limitHit || (s.counted smp).idxMax) =
      ((s.cfgRun.sampleLimit.any fun n => decide (n.toNat ≤ s.idx.toNat + 1)) ||
        decide (s.idx.toNat + 1 = 2 ^ 64 - 1)) := by
  rw [limitHit_eq_any, State.idxMax, counted_cfgRun, counted_idx, succ_idx_toNat h]
  rfl

/-- Settles O23: the sample is tracked and counted, and then the stop checks read the next index. -/
theorem sampleStepResult : Obligations.SampleStepResult := by
  intro s smp hr hi
  have hne : s.idx.toNat ≠ maxSamples := Nat.ne_of_lt hi
  simp only
  rw [exec_sampleStep_of_lt smp hr hi, stopChecks_eq, Bool.or_assoc, stops_after_sample smp hne, counted_run, hr,
    counted_limitReached, State.counted, track_eq, windowDue_eq_any]
  simp only [List.append_assoc]
  rfl

theorem finishLimit_limitHit (s : State) : s.finishLimit.limitHit = s.limitHit := rfl

/-- The two stop checks one after the other: the second does nothing where the first ended the run. -/
theorem runStages_stops (s : State) :
    runStages [(.limit, .internal), (.exhaust, .internal)] s = .next s.stopChecks := by
  rw [runStages_cons, runStage_limit, andThen_next, runStages_cons, runStage_exhaust, andThen_next, runStages_nil,
    State.stopChecks]
  cases hl : s.limitHit <;> simp [hl, finishLimit_limitHit]

/-- Settles O24: each stage is the sub-step of R210 at its place. -/
theorem sampleStepRunsItsSelectedSubOperations : Obligations.SampleStepRunsItsSelectedSubOperations := by
  intro s smp hr
  rw [exec_sampleStep smp hr, sampleStages, runStages_cons, runStage_reset, andThen_next, runStages_cons,
    runStage_latch, andThen_next, runStages_cons, runStage_edge, andThen_next, runStages_cons, runStage_clock,
    andThen_next, runStages_cons, runStage_index, funext runStages_stops]
  rfl

/-! ## O38, O41, O53: the host's interactions -/

@[simp] theorem andThen_next_right (r : Result) : andThen r .next = r := by cases r <;> rfl

/-- Settles O38: a register with one selection point runs what it selects there. -/
theorem stepRunsTheSelectedOperation : Obligations.StepRunsTheSelectedOperation := by
  intro s r v rest st i hs hst hd
  rw [step_cons hs, perform, writeReg, hst]
  exact (andThen_next_right _).trans (runStage_op hd)

theorem writeReg_byteIn_of_not_running {s : State} (v : Word) (h : s.run ≠ .running) :
    writeReg regByteIn v s = .next s := by
  rw [writeReg_byteIn, runStage_byteIn, if_neg fun hr => h (isRunning_iff.mp hr)]

/-- A register above LIMIT_HI that is neither CMD nor BYTE_IN ignores writes, 10_state.md R40. -/
theorem writeReg_no_effect {s : State} {r : Nat} (v : Word) (h : 3 < r) (hc : r ≠ 9) (hb : r ≠ 10) :
    writeReg r v s = .next s := by
  rw [writeReg_other_eq s v hc hb, State.configure, if_neg fun hle => Nat.not_le_of_lt h hle.1]

/-- A write to one of the four configuration registers, 44_run_control.md R222, R231. -/
theorem writeReg_config {s : State} {r : Nat} (v : Word) (h : r ≤ 3) : writeReg r v s = .next (s.configure r v) := by
  have hc : r ≠ 9 := by omega
  have hb : r ≠ 10 := by omega
  exact writeReg_other_eq s v hc hb

/-- Settles O41, by the register written. -/
theorem ignoredWritesChangeNothing : Obligations.IgnoredWritesChangeNothing := by
  intro s r v rest hs hcase
  rw [step_cons hs, ← popHost_of_cons hs, perform]
  obtain ⟨rfl, hr⟩ | ⟨hle, hr⟩ | ⟨h4, h8⟩ | h11 | ⟨rfl, hr, h1⟩ | ⟨rfl, hr, h0⟩ := hcase
  · exact writeReg_byteIn_of_not_running (s := s.popHost) v hr
  · rw [writeReg_config v hle, configure_of_running (s := s.popHost) r v hr]
  · exact writeReg_no_effect v (by omega) (by omega) (by omega)
  · exact writeReg_no_effect v (by omega) (by omega) (by omega)
  · refine (writeReg_cmd_eq _ v).trans ?_
    rw [cmdEnd_of_clear h1, cmdStart_of_running (s := s.popHost) v hr]
  · refine (writeReg_cmd_eq _ v).trans ?_
    rw [cmdEnd_of_not_running (s := s.popHost) v hr, cmdStart_of_clear h0]

/-- A sample that does not leave a run in progress has met one of the stop conditions. -/
theorem stops_of_run_ne {s : State} {smp : Sample} (hr : s.run = .running)
    (h : (s.counted smp).stopChecks.run ≠ .running) :
    ((s.counted smp).limitHit || (s.counted smp).idxMax) = true := by
  by_contra hstop
  rw [stopChecks_eq, if_neg hstop] at h
  exact h ((counted_run s smp).trans hr)

theorem byteIn_ends {s t : State} {v : Word} (hr : s.run = .running) (h : ByteInResult s v t)
    (ht : t.run ≠ .running) :
    s.heldByte.isSome = true ∧ t.run = .done ∧ t.limitReached = true ∧ t.heldByte = none ∧
      t.idx.toNat = s.idx.toNat + 1 ∧
      ((∃ n, s.cfgRun.sampleLimit = some n ∧ n.toNat ≤ t.idx.toNat) ∨ t.idx.toNat = 2 ^ 64 - 1) := by
  cases h with
  | ignored => exact absurd hr ht
  | held => exact absurd hr ht
  | sample lo _ hb hi =>
    have hstop := stops_of_run_ne (s := s.dropByte) hr ht
    refine ⟨by rw [hb]; rfl, by rw [stopChecks_eq, if_pos hstop], ?_, by simp, ?_, ?_⟩
    · rw [stopChecks_eq, Bool.or_assoc, hstop, Bool.or_true]
    · rw [stopChecks_idx]
      exact succ_idx_toNat hi
    · rw [stopChecks_idx]
      obtain hlimit | hmax := (Bool.or_eq_true _ _).mp hstop
      · obtain ⟨n, hn, hle⟩ := limitHit_iff.mp hlimit
        rw [counted_cfgRun] at hn
        exact .inl ⟨n, hn, hle⟩
      · exact .inr (idxMax_iff.mp hmax)

/-- Settles O53, by the kind of the interaction. -/
theorem runsEndOnlyByTheRules : Obligations.RunsEndOnlyByTheRules := by
  intro s t hr hstep ht
  obtain ⟨-, rfl⟩ | ⟨a, hhead, hperf⟩ := step_result hstep
  · exact absurd hr ht
  cases hperf with
  | read r => exact absurd hr ht
  | readEvents => exact absurd hr ht
  | blockReset => exact .inl hhead
  | cmd v =>
    refine .inr (.inl ⟨v, hhead, ?_⟩)
    by_contra h1
    rw [cmdEnd_of_clear (Bool.eq_false_iff.mpr h1), cmdStart_of_running (s := s.popHost) v hr] at ht
    exact ht hr
  | byteIn v h => exact .inr (.inr ⟨⟨v, hhead⟩, byteIn_ends (s := s.popHost) hr h ht⟩)
  | config r v =>
    rw [configure_of_running (s := s.popHost) r v hr] at ht
    exact absurd hr ht

/-! ## The bytes of a run as a function of the state -/

/-- What a BYTE_IN write of this byte leaves in a state that can still count a sample, 40_sample_source.md R120,
R121. -/
def State.takeByte (s : State) (b : Byte) : State :=
  if s.isRunning then
    match s.heldByte with
    | some lo => (s.dropByte.counted (assemble b lo)).stopChecks
    | none => s.holdByte b
  else s

theorem takeByte_of_not_running {s : State} (b : Byte) (h : s.run ≠ .running) : s.takeByte b = s :=
  if_neg fun hr => h (isRunning_iff.mp hr)

theorem takeByte_first {s : State} (b : Byte) (hr : s.run = .running) (hb : s.heldByte = none) :
    s.takeByte b = s.holdByte b := by
  rw [State.takeByte, if_pos (isRunning_iff.mpr hr), hb]

theorem takeByte_second {s : State} {lo : Byte} (b : Byte) (hr : s.run = .running) (hb : s.heldByte = some lo) :
    s.takeByte b = (s.dropByte.counted (assemble b lo)).stopChecks := by
  rw [State.takeByte, if_pos (isRunning_iff.mpr hr), hb]

theorem writeReg_byteIn_eq {s : State} (v : Word) (h : s.run = .running → s.idx.toNat ≠ maxSamples) :
    writeReg regByteIn v s = .next (s.takeByte (v.setWidth 8)) := by
  by_cases hr : s.run = .running
  · rw [writeReg_byteIn, runStage_byteIn, if_pos (isRunning_iff.mpr hr)]
    cases hb : s.heldByte with
    | none => rw [takeByte_first _ hr hb]; exact exec_byteLow _ hr hb
    | some lo =>
      rw [takeByte_second _ hr hb]
      refine (exec_byteHigh _ hr hb).trans ((exec_sampleStep (s := s.dropByte) _ hr).trans ?_)
      exact sampleStep_of_lt (s := s.dropByte) _ (h hr)
  · rw [writeReg_byteIn_of_not_running v hr, takeByte_of_not_running _ hr]

theorem idx_ne_max_of_running {s : State} (h : s.RunOk) (hr : s.run = .running) : s.idx.toNat ≠ maxSamples := by
  obtain ⟨-, -, hlt⟩ := h hr
  exact Nat.ne_of_lt (hlt.trans_le (sampleBound_le s))

theorem perform_byte {s : State} (b : Byte) (h : s.Inv) :
    perform (.write regByteIn (b.setWidth 32)) s = .next (s.takeByte b) := by
  obtain ⟨-, hrun, -⟩ := h
  have hb : (b.setWidth 32).setWidth 8 = b := by
    rw [BitVec.setWidth_setWidth_of_le _ (by decide), BitVec.setWidth_eq]
  rw [perform, writeReg_byteIn_eq _ (idx_ne_max_of_running hrun), hb]

theorem inv_takeByte {s : State} (b : Byte) (h : s.Inv) : (s.takeByte b).Inv :=
  inv_byteIn h (writeReg_byteIn_result (perform_byte b h))

/-- What the bytes of a stream leave, one after the other. -/
def State.takeBytes (s : State) (bytes : List Byte) : State := bytes.foldl State.takeByte s

theorem performAll_bytes {s : State} (bytes : List Byte) (h : s.Inv) :
    performAll (bytes.map fun b => .write regByteIn (b.setWidth 32)) s = .next (s.takeBytes bytes) := by
  induction bytes generalizing s with
  | nil => rfl
  | cons b bytes ih =>
    rw [List.map_cons, performAll_cons, perform_byte b h, andThen_next, ih (inv_takeByte b h)]
    rfl

/-! ## A whole decode run as a function of the configuration and the bytes -/

/-- The configuration registers after the host has written all four, 44_run_control.md R222. -/
def storedConfig (c : RunConfig) : RunConfig :=
  { c with chanMap := c.chanMap &&& chanMapMask, ctrl := c.ctrl &&& ctrlMask }

/-- The block after the reset and the configuration writes of a decode run, 44_run_control.md R234. -/
def State.configured (s : State) (c : RunConfig) : State := { s.blockReset with cfg := storedConfig c }

/-- What `Decode(c, bytes)` leaves, 44_run_control.md R234: the last write is an EndOfStream. -/
def State.decoded (s : State) (c : RunConfig) (bytes : List Byte) : State :=
  ((s.configured c).startRun.takeBytes bytes).cmdEnd 2#32

theorem perform_config {s : State} {r : Nat} (v : Word) (h : r ≤ 3) (hr : s.run ≠ .running) :
    perform (.write r v) s = .next (s.putConfig r v) := by
  rw [perform, writeReg_config v h, State.configure, if_pos ⟨h, isRunning_eq_false.mpr hr⟩]

theorem performAll_configure (s : State) (c : RunConfig) :
    performAll [.blockReset, .write regChanMap c.chanMap, .write regCtrl c.ctrl, .write regLimitLo c.limitLo,
      .write regLimitHi c.limitHi] s = .next (s.configured c) := by
  have hidle : RunStatus.idle ≠ .running := nofun
  rw [performAll_cons, perform, andThen_next, performAll_cons, perform_config _ (by decide) hidle, andThen_next,
    performAll_cons, perform_config _ (by decide) hidle, andThen_next, performAll_cons,
    perform_config _ (by decide) hidle, andThen_next, performAll_cons, perform_config _ (by decide) hidle,
    andThen_next, performAll_nil]
  rfl

theorem perform_startRun {s : State} (hr : s.run ≠ .running) : perform (.write regCmd 1#32) s = .next s.startRun := by
  rw [perform, writeReg_cmd_eq, cmdEnd_of_not_running _ hr, State.cmdStart, isRunning_eq_false.mpr hr]
  rfl

theorem perform_endOfStream (s : State) : perform (.write regCmd 2#32) s = .next (s.cmdEnd 2#32) := by
  rw [perform, writeReg_cmd_eq, cmdStart_of_clear (by decide)]

theorem storedConfig_eq_put (c : RunConfig) :
    storedConfig c = (((RunConfig.atReset.put regChanMap c.chanMap).put regCtrl c.ctrl).put regLimitLo c.limitLo).put
      regLimitHi c.limitHi := rfl

theorem reservedClear_configured (s : State) (c : RunConfig) : (s.configured c).ReservedClear := by
  have hcfg : (s.configured c).cfg = storedConfig c := rfl
  rw [State.ReservedClear, hcfg, storedConfig_eq_put]
  exact reservedClear_put _ _ (reservedClear_put _ _ (reservedClear_put _ _ (reservedClear_put _ _
    reservedClear_atReset)))

/-- `Decode` is total: under the invariant each of its interactions completes. -/
theorem decodeRun_eq (c : RunConfig) (bytes : List Byte) (s : State) :
    decodeRun c bytes s = .next (s.decoded c bytes) := by
  have hscript : decodeScript c bytes =
      [.blockReset, .write regChanMap c.chanMap, .write regCtrl c.ctrl, .write regLimitLo c.limitLo,
        .write regLimitHi c.limitHi] ++ (.write regCmd 1#32 ::
          ((bytes.map fun b => .write regByteIn (b.setWidth 32)) ++ [.write regCmd 2#32])) := rfl
  have hidle : (s.configured c).run ≠ .running := nofun
  have hinv : (s.configured c).startRun.Inv := inv_startRun (reservedClear_configured s c)
  rw [decodeRun, hscript, performAll_append, performAll_configure, andThen_next, performAll_cons,
    perform_startRun hidle, andThen_next, performAll_append, performAll_bytes bytes hinv, andThen_next,
    performAll_cons, perform_endOfStream, andThen_next, performAll_nil]
  rfl

/-! ## O58: the block after a decode run -/

/-- The state with the model's own fields of another. -/
def State.withPort (s u : State) : State := { s with host := u.host, reply := u.reply, draws := u.draws }

/-- The same block, and during a run the same latched configuration: what a run's outcome depends on. -/
structure SameRun (s t : State) : Prop where
  block : State.SameBlock s t
  latched : s.run = .running → s.cfgRun = t.cfgRun

theorem sameRun_withPort (s u : State) : SameRun s (s.withPort u) :=
  ⟨⟨rfl, rfl, rfl, rfl, rfl, rfl, rfl, rfl, rfl, rfl, rfl⟩, fun _ => rfl⟩

/-- During a run two such states differ in the model's own fields at most. -/
theorem SameRun.eq_withPort {s t : State} (h : SameRun s t) (hr : s.run = .running) : t = s.withPort t := by
  obtain ⟨⟨h1, h2, h3, h4, h5, h6, h7, h8, h9, h10, h11⟩, hlatched⟩ := h
  have h12 := hlatched hr
  cases s
  cases t
  simp_all [State.withPort]

theorem stopChecks_withPort (s u : State) : (s.withPort u).stopChecks = s.stopChecks.withPort u := by
  rw [stopChecks_eq, stopChecks_eq]
  rfl

theorem counted_withPort (s u : State) (smp : Sample) : (s.withPort u).counted smp = (s.counted smp).withPort u := by
  rw [State.counted, State.counted, track_eq, track_eq]
  rfl

/-- No operation of a run reads the model's own fields. -/
theorem takeByte_withPort {s : State} (u : State) (b : Byte) (hr : s.run = .running) :
    (s.withPort u).takeByte b = (s.takeByte b).withPort u := by
  cases hb : s.heldByte with
  | none =>
    rw [takeByte_first b hr hb]
    exact takeByte_first (s := s.withPort u) b hr hb
  | some lo =>
    rw [takeByte_second b hr hb, ← stopChecks_withPort, ← counted_withPort]
    exact takeByte_second (s := s.withPort u) b hr hb

theorem endStream_withPort (s u : State) : (s.withPort u).endStream = s.endStream.withPort u := by
  simp only [State.endStream, apply_ite (State.withPort · u)]
  rfl

theorem sameRun_takeByte {s t : State} (b : Byte) (h : SameRun s t) : SameRun (s.takeByte b) (t.takeByte b) := by
  obtain ⟨-, -, -, -, -, hrun, -⟩ := h.block
  by_cases hr : s.run = .running
  · rw [h.eq_withPort hr, takeByte_withPort t b hr]
    exact sameRun_withPort _ t
  · rwa [takeByte_of_not_running b hr, takeByte_of_not_running b (hrun ▸ hr)]

theorem sameRun_takeBytes {s t : State} (bytes : List Byte) (h : SameRun s t) :
    SameRun (s.takeBytes bytes) (t.takeBytes bytes) := by
  induction bytes generalizing s t with
  | nil => exact h
  | cons b bytes ih => exact ih (sameRun_takeByte b h)

theorem cmdEnd_of_running {s : State} {v : Word} (hv : v.getLsbD 1 = true) (hr : s.run = .running) :
    s.cmdEnd v = s.endStream := by
  rw [State.cmdEnd, hv, isRunning_iff.mpr hr]
  rfl

theorem sameRun_cmdEnd {s t : State} {v : Word} (hv : v.getLsbD 1 = true) (h : SameRun s t) :
    SameRun (s.cmdEnd v) (t.cmdEnd v) := by
  obtain ⟨-, -, -, -, -, hrun, -⟩ := h.block
  by_cases hr : s.run = .running
  · rw [cmdEnd_of_running hv hr, cmdEnd_of_running hv (hrun ▸ hr), h.eq_withPort hr, endStream_withPort]
    exact sameRun_withPort _ t
  · rwa [cmdEnd_of_not_running v hr, cmdEnd_of_not_running v (hrun ▸ hr)]

theorem sameRun_startRun {s t : State} (h : s.cfg = t.cfg) : SameRun s.startRun t.startRun := by
  refine ⟨startRun_sameBlock h, fun hr => ?_⟩
  cases hm : legalMap s.cfg.chanMap with
  | false =>
    rw [startRun_of_illegal hm] at hr
    cases hr
  | true =>
    rw [startRun_of_legal hm, startRun_of_legal (h ▸ hm)]
    simp [h]

theorem sameRun_decoded (s t : State) (c : RunConfig) (bytes : List Byte) :
    SameRun (s.decoded c bytes) (t.decoded c bytes) :=
  sameRun_cmdEnd (by decide) (sameRun_takeBytes bytes (sameRun_startRun rfl))

theorem statusWord_congr {s t : State} (h : State.SameBlock s t) : s.statusWord = t.statusWord := by
  obtain ⟨hpast, hprev, hpending, -, hheld, hrun, herr, hempty, hlim, -⟩ := h
  have hunstarted : s.unstarted = t.unstarted := congrArg (fun r => decide (r = RunStatus.idle)) hrun
  simp only [State.statusWord, State.statusFlags, hunstarted, hpast, hprev, hpending, hheld, hrun, herr, hempty, hlim]

theorem startRun_ne_idle (s : State) : s.startRun.run ≠ .idle := by
  cases hm : legalMap s.cfg.chanMap with
  | false => rw [startRun_of_illegal hm]; nofun
  | true =>
    rw [startRun_of_legal hm, stopChecks_eq]
    simp only [State.latchRun_run]
    split <;> nofun

theorem takeByte_ne_idle {s : State} (b : Byte) (h : s.run ≠ .idle) : (s.takeByte b).run ≠ .idle := by
  by_cases hr : s.run = .running
  · cases hb : s.heldByte with
    | none => rwa [takeByte_first b hr hb]
    | some lo =>
      rw [takeByte_second b hr hb, stopChecks_eq]
      simp only [counted_run, State.dropByte_run]
      split
      · nofun
      · exact h
  · rwa [takeByte_of_not_running b hr]

theorem takeBytes_ne_idle {s : State} (bytes : List Byte) (h : s.run ≠ .idle) : (s.takeBytes bytes).run ≠ .idle := by
  induction bytes generalizing s with
  | nil => exact h
  | cons b bytes ih => exact ih (takeByte_ne_idle b h)

theorem endStream_ended (s : State) : s.endStream.run = .done ∨ s.endStream.run = .error := by
  rw [State.endStream]
  split_ifs
  exacts [.inr rfl, .inl rfl, .inl rfl]

/-- An EndOfStream leaves no started block in a run. -/
theorem cmdEnd_ended {s : State} {v : Word} (hv : v.getLsbD 1 = true) (h : s.run ≠ .idle) :
    (s.cmdEnd v).run = .done ∨ (s.cmdEnd v).run = .error := by
  by_cases hr : s.run = .running
  · rw [cmdEnd_of_running hv hr]
    exact endStream_ended s
  · rw [cmdEnd_of_not_running v hr]
    cases hs : s.run with
    | idle => exact absurd hs h
    | running => exact absurd hs hr
    | done => exact .inl rfl
    | error => exact .inr rfl

/-- Settles O58: a decode run begins with a Start, which reads the configuration alone, and what follows reads what the
Start left and the bytes. -/
theorem decodeIsAFunctionOfConfigurationAndBytes : Obligations.DecodeIsAFunctionOfConfigurationAndBytes := by
  intro c bytes s t
  have hsame := (sameRun_decoded s t c bytes).block
  exact ⟨_, _, decodeRun_eq c bytes s, decodeRun_eq c bytes t, hsame, statusWord_congr hsame,
    cmdEnd_ended (by decide) (takeBytes_ne_idle bytes (startRun_ne_idle _))⟩

/-! ## O59: how a decode run ends -/

/-- A map's fields stand in its writable bits, 10_state.md R41. -/
theorem mapFields_masked (m : Word) : mapFields (m &&& chanMapMask) = mapFields m := by
  have field (k : Nat) (h : chanMapMask.extractLsb' k 4 = BitVec.allOnes 4) :
      (m &&& chanMapMask).extractLsb' k 4 = m.extractLsb' k 4 := by
    rw [BitVec.extractLsb'_and, h, BitVec.and_allOnes]
  simp only [mapFields, controls, posReset, posClock, posCs1, posCs2, posAddrLow, posAddrHigh, field 0 (by decide),
    field 4 (by decide), field 8 (by decide), field 12 (by decide), field 16 (by decide), field 20 (by decide)]

theorem legalMap_storedConfig (c : RunConfig) : legalMap (storedConfig c).chanMap = legalMap c.chanMap := by
  have hfields : mapFields (storedConfig c).chanMap = mapFields c.chanMap := mapFields_masked c.chanMap
  rw [Bool.eq_iff_iff, ← mapFields_mem_legalFields, hfields, mapFields_mem_legalFields]

/-- The limit and its enable bit stand in writable bits, 10_state.md R42, R43. -/
theorem sampleLimit_storedConfig (c : RunConfig) : (storedConfig c).sampleLimit = c.sampleLimit := by
  have henable : (storedConfig c).limitEnable = c.limitEnable := by
    simp [storedConfig, RunConfig.limitEnable, ctrlMask]
  rw [RunConfig.sampleLimit, henable]
  rfl

/-- The samples a run may process, 44_run_control.md R220, R221. -/
theorem sampleBound_eq (s : State) :
    s.sampleBound = (s.cfgRun.sampleLimit.map BitVec.toNat).getD (2 ^ 64 - 1) := by
  rw [State.sampleBound]
  cases s.cfgRun.sampleLimit <;> rfl

/-- A run that may process `n` samples, after the first `k` bytes of its stream. -/
structure StreamAt (n k : Nat) (s : State) : Prop where
  bound : s.sampleBound = n
  idx : s.idx.toNat = min (k / 2) n
  run : s.run = if k / 2 < n then .running else .done
  held : s.heldByte.isSome = decide (k / 2 < n ∧ k % 2 = 1)
  limitReached : s.limitReached = decide (n ≤ k / 2)
  err : s.err = .none
  empty : s.empty = false

/-- The stop checks of a run with no byte held that has not passed its bound, after an even number of bytes. -/
theorem streamAt_stopChecks {n k : Nat} {s : State} (hbound : s.sampleBound = n) (hidx : s.idx.toNat = k / 2)
    (hle : k / 2 ≤ n) (heven : k % 2 = 0) (hrun : s.run = .running) (hheld : s.heldByte = none)
    (hlim : s.limitReached = false) (herr : s.err = .none) (hempty : s.empty = false) :
    StreamAt n k s.stopChecks := by
  have hstop : (s.limitHit || s.idxMax) = decide (n ≤ k / 2) := by
    rw [Bool.eq_iff_iff, stops_iff (by omega), decide_eq_true_iff]
    omega
  refine ⟨(sampleBound_congr (stopChecks_cfgRun s)).trans hbound, ?_, ?_, ?_, ?_, ?_, ?_⟩
  · rw [stopChecks_idx, hidx, Nat.min_eq_left hle]
  · rw [stopChecks_eq, hstop, hrun]
    by_cases h : k / 2 < n
    · simp [h]
    · simp [h, Nat.le_of_not_lt h]
  · simp [hheld, heven]
  · rw [stopChecks_eq, Bool.or_assoc, hstop, hlim, Bool.false_or]
  · rw [stopChecks_err, herr]
  · rw [stopChecks_empty, hempty]

theorem streamAt_startRun {s : State} (h : legalMap s.cfg.chanMap = true) :
    StreamAt ((s.cfg.sampleLimit.map BitVec.toNat).getD (2 ^ 64 - 1)) 0 s.startRun := by
  rw [startRun_of_legal h]
  exact streamAt_stopChecks (sampleBound_eq _) rfl (Nat.zero_le _) rfl rfl rfl rfl rfl rfl

section
variable {n k : Nat} {s : State}

theorem StreamAt.running_iff (h : StreamAt n k s) : s.run = .running ↔ k / 2 < n := by
  rw [h.run]
  split <;> simp_all

/-- The first byte of a sample is held; nothing is counted. -/
theorem streamAt_firstByte (b : Byte) (h : StreamAt n k s) (hlt : k / 2 < n) (heven : k % 2 = 0) :
    StreamAt n (k + 1) (s.holdByte b) := by
  have hhalf : (k + 1) / 2 = k / 2 := by omega
  have hodd : (k + 1) % 2 = 1 := by omega
  refine ⟨h.bound, ?_, ?_, ?_, ?_, h.err, h.empty⟩
  · rw [hhalf]; exact h.idx
  · rw [hhalf]; exact h.run
  · simp [hhalf, hlt, hodd]
  · rw [hhalf]; exact h.limitReached

/-- The second byte of a sample completes it; the sample is counted. -/
theorem streamAt_secondByte (smp : Sample) (h : StreamAt n k s) (hlt : k / 2 < n) (hodd : k % 2 = 1) :
    StreamAt n (k + 1) (s.dropByte.counted smp).stopChecks := by
  have hidx : s.idx.toNat = k / 2 := h.idx.trans (Nat.min_eq_left hlt.le)
  have hmax : s.idx.toNat ≠ maxSamples := by
    have hle := h.bound ▸ sampleBound_le s
    omega
  have hcount : (s.dropByte.counted smp).idx.toNat = (k + 1) / 2 := by
    rw [counted_idx, succ_idx_toNat (s := s.dropByte) hmax, State.dropByte_idx]
    omega
  have hbound : (s.dropByte.counted smp).sampleBound = n :=
    (sampleBound_congr (counted_cfgRun s.dropByte smp)).trans h.bound
  refine streamAt_stopChecks hbound hcount (by omega) (by omega) ?_ ?_ ?_ ?_ ?_
  · rw [counted_run]; exact h.running_iff.mpr hlt
  · rw [counted_heldByte]; rfl
  · rw [counted_limitReached, State.dropByte_limitReached, h.limitReached, decide_eq_false (by omega)]
  · rw [counted_err]; exact h.err
  · rw [counted_empty]; exact h.empty

/-- A byte after the end of the run is discarded, 40_sample_source.md R125. -/
theorem streamAt_discarded (h : StreamAt n k s) (hle : n ≤ k / 2) : StreamAt n (k + 1) s := by
  have hle' : n ≤ (k + 1) / 2 := by omega
  refine ⟨h.bound, ?_, ?_, ?_, ?_, h.err, h.empty⟩
  · rw [h.idx, Nat.min_eq_right hle, Nat.min_eq_right hle']
  · rw [h.run, if_neg (by omega), if_neg (by omega)]
  · rw [h.held, decide_eq_false (by omega), decide_eq_false (by omega)]
  · rw [h.limitReached, decide_eq_true hle, decide_eq_true hle']

theorem streamAt_takeByte (b : Byte) (h : StreamAt n k s) : StreamAt n (k + 1) (s.takeByte b) := by
  by_cases hlt : k / 2 < n
  · have hr := h.running_iff.mpr hlt
    have hheld := h.held
    cases hb : s.heldByte with
    | none =>
      rw [takeByte_first b hr hb]
      exact streamAt_firstByte b h hlt (by simpa [hb, hlt] using hheld)
    | some lo =>
      rw [takeByte_second b hr hb]
      exact streamAt_secondByte _ h hlt (by simpa [hb, hlt] using hheld)
  · rw [takeByte_of_not_running b fun hr => hlt (h.running_iff.mp hr)]
    exact streamAt_discarded h (Nat.le_of_not_lt hlt)

theorem streamAt_takeBytes (bytes : List Byte) (h : StreamAt n k s) :
    StreamAt n (k + bytes.length) (s.takeBytes bytes) := by
  induction bytes generalizing k s with
  | nil => exact h
  | cons b bytes ih =>
    rw [List.length_cons, Nat.add_comm bytes.length, ← Nat.add_assoc]
    exact ih (streamAt_takeByte b h)

/-- How the stream ends a run, by what the first `k` bytes left of it. -/
theorem StreamAt.ended {v : Word} (hv : v.getLsbD 1 = true) (h : StreamAt n k s) :
    (s.cmdEnd v).idx.toNat = min (k / 2) n ∧
    ((s.cmdEnd v).limitReached = true ↔ n ≤ k / 2) ∧
    ((s.cmdEnd v).err = .truncatedStream ↔ k / 2 < n ∧ k % 2 = 1) ∧
    ((s.cmdEnd v).empty = true ↔ k = 0 ∧ 0 < n) ∧
    ((s.cmdEnd v).run = .error ↔ (s.cmdEnd v).err = .truncatedStream) := by
  refine ⟨by rw [cmdEnd_idx, h.idx], ?_⟩
  by_cases hlt : k / 2 < n
  · have hlim : s.limitReached = false := h.limitReached.trans (decide_eq_false (by omega))
    have hidx : s.idx.toNat = k / 2 := h.idx.trans (Nat.min_eq_left hlt.le)
    have hnot : ¬ n ≤ k / 2 := by omega
    rw [cmdEnd_of_running hv (h.running_iff.mpr hlt), State.endStream, h.held]
    by_cases hodd : k % 2 = 1
    · have hne : k ≠ 0 := by omega
      simp [hlt, hodd, hlim, hnot, hne, h.empty]
    · by_cases hi : s.idx = 0#64
      · have hk : k = 0 := by
          simp only [hi, BitVec.toNat_ofNat, Nat.zero_mod] at hidx
          omega
        have hn : 0 < n := by omega
        simp [hi, hk, hn, hlim, h.err]
        omega
      · have hk : k ≠ 0 := by
          rintro rfl
          exact hi (BitVec.eq_of_toNat_eq hidx)
        simp [hodd, hi, hk, hnot, h.err]
  · have hk : ¬ (k = 0 ∧ 0 < n) := by omega
    rw [cmdEnd_of_not_running v fun hr => hlt (h.running_iff.mp hr), h.run, h.limitReached, h.err, h.empty]
    simp [hlt, hk, Nat.le_of_not_lt hlt]

end

/-- Settles O59: what the first bytes of a stream leave is known by their number, and the EndOfStream ends that. -/
theorem decodeRunsEndAsTheStreamSays : Obligations.DecodeRunsEndAsTheStreamSays := by
  intro c bytes s t hlegal hrun n
  rw [decodeRun_eq] at hrun
  cases hrun
  have hstart := streamAt_startRun (s := s.configured c) ((legalMap_storedConfig c).trans hlegal)
  have hlimit : (s.configured c).cfg.sampleLimit = c.sampleLimit := sampleLimit_storedConfig c
  have hstream := streamAt_takeBytes bytes hstart
  rw [hlimit, Nat.zero_add] at hstream
  rw [← List.length_eq_zero_iff]
  exact hstream.ended (by decide)

end Sys2Proof.Machine
end

section
/-! # The family 60_exceptions.md: proofs

First what each interaction may do (it completes; outside a run it changes no decoder state), then which operations
raise an error, and last what a Start with an illegal map records, by itself and in a whole decode run. -/

namespace Sys2Proof.Machine

/-! ## O49: every interaction completes -/

/-- Only a sample can stop the machine, at the last index, and a run in progress has not reached it. -/
theorem perform_completes {s : State} (a : HostAccess) (h : s.RunOk) : ∃ t, perform a s = .next t := by
  cases a with
  | read r => exact ⟨_, rfl⟩
  | readEvents => exact ⟨_, rfl⟩
  | blockReset => exact ⟨_, rfl⟩
  | write r v =>
    by_cases hc : r = regCmd
    · exact ⟨_, hc ▸ writeReg_cmd_eq s v⟩
    · by_cases hb : r = regByteIn
      · exact ⟨_, hb ▸ writeReg_byteIn_eq v (idx_ne_max_of_running h)⟩
      · exact ⟨_, writeReg_other_eq s v hc hb⟩

/-- Settles O49: a step performs the next interaction, on a state whose run is as the invariant says. -/
theorem everyInteractionCompletes : Obligations.EveryInteractionCompletes := by
  rintro s ⟨-, hrun, -⟩
  cases hs : s.host with
  | nil => exact ⟨s, step_nil hs⟩
  | cons a rest =>
    rw [step_cons hs]
    exact perform_completes a hrun

/-! ## O52: what an interaction may change outside a run -/

theorem configure_frame (s : State) (r : Nat) (v : Word) :
    s.configure r v = { s with cfg := (s.configure r v).cfg } := by
  rw [State.configure]
  split <;> rfl

theorem byteIn_of_not_running {s t : State} {v : Word} (hr : s.run ≠ .running) (h : ByteInResult s v t) : t = s := by
  cases h with
  | ignored => rfl
  | held hrun => exact absurd hrun hr
  | sample lo hrun => exact absurd hrun hr

/-- Settles O52, by the kind of the interaction: outside a run a CMD write without the Start bit and a byte do nothing,
and a configuration write keeps its frame. -/
theorem outsideARunOnlyStartChangesTheDecoder : Obligations.OutsideARunOnlyStartChangesTheDecoder := by
  intro s t hr hreset hcmd hstep
  obtain ⟨-, rfl⟩ | ⟨a, hhead, hperf⟩ := step_result hstep
  · rfl
  cases hperf with
  | read r => rfl
  | readEvents => rfl
  | blockReset => exact absurd hhead hreset
  | cmd v =>
    rw [cmdEnd_of_not_running (s := s.popHost) v hr, cmdStart_of_clear (hcmd v hhead)]
    rfl
  | byteIn v h =>
    rw [byteIn_of_not_running (s := s.popHost) hr h]
    rfl
  | config r v =>
    rw [configure_frame]
    rfl

/-! ## O54: which operations raise an error -/

theorem TrackerResult.err_eq {s t : State} {smp : Sample} {i : Instr} (h : TrackerResult s smp i t) :
    t.err = s.err := by
  cases h with
  | edgeRise => rw [clockEdgeEvent_eq]; rfl
  | _ => rfl

theorem start_clears_err {s t : State} (h : exec .start s = .next t) : t.err = s.err ∨ t.err = .none := by
  obtain rfl | ⟨-, rfl⟩ := next_ite_cases h
  · exact .inl rfl
  · exact .inr (by rw [beginRun_fields]; rfl)

/-- The operations that raise no error keep the error code, or clear it as START does. -/
theorem exec_err {s t : State} {i : Instr} (h : exec i s = .next t) (htrunc : i ≠ .endOfStreamTruncated)
    (hbad : i ≠ .startBadMap) : t.err = s.err ∨ t.err = .none := by
  cases i with
  | byteLow b => exact .inl (byteLow_frame h).1.err
  | byteHigh b => exact .inl (byteHigh_frame h).err
  | sampleStep smp => exact .inl (sampleStep_frame h).1.err
  | resetDetect smp | resetHold smp | latchDecode smp | latchReject smp | latchIdle smp | edgeRise smp
  | edgeNone smp | clockUpdate smp => exact .inl (tracker_result (smp := smp) (by simp) h).err_eq
  | indexAdvance | limitStop | indexExhaust =>
    obtain ⟨-, -, -, -, herr, -⟩ := indexAndStopFrame s t _ (by simp) h
    exact .inl herr
  | start => exact start_clears_err h
  | startBadMap => exact absurd rfl hbad
  | endOfStreamTruncated => exact absurd rfl htrunc
  | endOfStreamEmpty | endOfStreamOk =>
    obtain ⟨-, -, -, -, -, -, -, -, hkeep, -⟩ := endOfStreamFrame s t _ (by simp) h
    exact .inl (hkeep htrunc).2
  | configWrite r v =>
    obtain ⟨hframe, -⟩ := configWriteFrame s t r v h
    exact .inl (by rw [hframe])

/-- Settles O54: a changed error code comes from one of the two raising operations with its row taken, and the row's
condition contains the error's. -/
theorem errorsAreRaisedOnlyByTheirOperations : Obligations.ErrorsAreRaisedOnlyByTheirOperations := by
  intro s t i h hchanged herror
  by_cases htrunc : i = .endOfStreamTruncated
  · subst htrunc
    obtain rfl | ⟨htaken, rfl⟩ := next_ite_cases h
    · exact absurd rfl hchanged
    · obtain ⟨-, hheld⟩ := Bool.and_eq_true_iff.mp htaken
      exact .inl ⟨rfl, rfl, hheld, rfl⟩
  by_cases hbad : i = .startBadMap
  · subst hbad
    obtain rfl | ⟨htaken, rfl⟩ := next_ite_cases h
    · exact absurd rfl hchanged
    · obtain ⟨-, hmap⟩ := Bool.and_eq_true_iff.mp htaken
      exact .inr ⟨rfl, rfl, by simpa using hmap, rfl, rfl, rfl⟩
  obtain hsame | hnone := exec_err h htrunc hbad
  · exact absurd hsame hchanged
  · exact absurd hnone herror

/-! ## O26, O60: a Start with an illegal map -/

/-- ERROR with CHANNEL_MAP and every flag at 0, 60_exceptions.md R252, 10_state.md R46. -/
theorem statusWord_badMap (s : State) : (s.initRun.raiseError .channelMap).statusWord = 0x0000000B#32 := by
  have hflags : (s.initRun.raiseError .channelMap).statusFlags = 0#6 := by simp [State.statusFlags, State.unstarted]
  rw [State.statusWord, hflags, State.raiseError_err, State.raiseError_run]
  decide

/-- COUNT is 0 after a failed Start, 10_state.md R47. -/
theorem count_badMap (s : State) : (s.initRun.raiseError .channelMap).count = 0#64 := count_of_started nofun

/-- Settles O26: the CMD write is a Start, and the map is illegal. -/
theorem badMapStartRecords : Obligations.BadMapStartRecords := by
  intro s v rest hr hmap h0 hs
  refine ⟨_, step_start hr h0 hs, ?_⟩
  rw [startRun_of_illegal (s := s.popHost) hmap]
  have hcount := count_badMap s.popHost
  exact ⟨statusWord_badMap _, congrArg (BitVec.extractLsb' 0 32) hcount, congrArg (BitVec.extractLsb' 32 32) hcount,
    eventsSeen_of_started nofun, rfl⟩

/-- Bytes outside a run are discarded, 44_run_control.md R233, 60_exceptions.md R253. -/
theorem takeBytes_of_not_running {s : State} (bytes : List Byte) (h : s.run ≠ .running) : s.takeBytes bytes = s := by
  induction bytes with
  | nil => rfl
  | cons b bytes ih => rwa [State.takeBytes, List.foldl_cons, takeByte_of_not_running b h]

/-- With an illegal map nothing after the Start of a decode run changes the block, 60_exceptions.md R256. -/
theorem decoded_of_illegal {c : RunConfig} (bytes : List Byte) (s : State) (h : legalMap c.chanMap = false) :
    s.decoded c bytes = (s.configured c).initRun.raiseError .channelMap := by
  have hstart := startRun_of_illegal (s := s.configured c) ((legalMap_storedConfig c).trans h)
  have hended : ((s.configured c).initRun.raiseError .channelMap).run ≠ .running := nofun
  rw [State.decoded, hstart, takeBytes_of_not_running bytes hended, cmdEnd_of_not_running _ hended]

/-- Settles O60: the run completes, and it leaves what the failed Start left. -/
theorem illegalMapsDecodeNothing : Obligations.IllegalMapsDecodeNothing := by
  intro c bytes s h
  refine ⟨_, decodeRun_eq c bytes s, ?_⟩
  rw [decoded_of_illegal bytes s h]
  exact ⟨statusWord_badMap _, rfl, rfl⟩

end Sys2Proof.Machine
end

section
/-! # The family 70_reset_and_hazards.md: proofs

A block reset may come at any time (70_reset_and_hazards.md R280): what the step that performs it leaves, and what the
host then reads. -/

namespace Sys2Proof.Machine

theorem step_blockReset {s : State} {rest : List HostAccess} (h : s.host = .blockReset :: rest) :
    step s = .next s.popHost.blockReset := by
  rw [step_cons h, ← popHost_of_cons h, perform]

theorem popHost_host {s : State} {a : HostAccess} {rest : List HostAccess} (h : s.host = a :: rest) :
    s.popHost.host = rest := by rw [popHost_of_cons h]

/-- STATUS mirrors nothing of the free decoder state before the first Start, 10_state.md R46. -/
theorem readReg_status_of_idle {s : State} (hrun : s.run = .idle) (herr : s.err = .none) : s.readReg 4 = 0#32 := by
  obtain ⟨-, -, -, hidle, -⟩ := statusFields s
  exact (hidle hrun).2 herr

/-- Settles O45: no field R52 fixes depends on the state before the reset, and STATUS reads such fields alone. -/
theorem blockResetLeavesSpecifiedValues : Obligations.BlockResetLeavesSpecifiedValues := by
  intro s rest hs
  have hstatus : s.popHost.blockReset.readReg 4 = 0#32 := readReg_status_of_idle rfl rfl
  exact ⟨_, step_blockReset hs, rfl, rfl, rfl, rfl, rfl, rfl, rfl, rfl, hstatus, popHost_host hs⟩

end Sys2Proof.Machine
end
